-- ==== Sys2Proof/Word.lean ====
section
/-! DEFINITION. The words of the block: register words, bytes, stamps, flits (spec 00 R7, R8; 02 R22). -/
namespace Sys2Proof

/-- A register word, 32 bits (18 R523). -/
abbrev Word := BitVec 32
/-- A byte of a memory. -/
abbrev Byte := BitVec 8
/-- A full stamp: [63:30] TAI seconds, [29:0] nanoseconds (00 R8). -/
abbrev Stamp := BitVec 64
/-- The 135 wires of a flit that the check code covers: 0-127 payload, 128-129 type, 130-133 VC, 134 POISON (02 R22). -/
abbrev Flit := BitVec 135
/-- One 64-bit counter word (15 R448). -/
abbrev Counter := BitVec 64

end Sys2Proof
end

