-- ==== Sys2Proof/Syntax.lean ====
section
/-! DEFINITION. The commands of the block: one constructor per row of spec/opcode_table.json, in the table's order.
An operand is what the outside gives with the happening: a register word, an object's number, a measured value. -/
namespace Sys2Proof

/-- An end of a link: a mesh or local port `p` of node `n` (03 R57), or attachment `a` of NI `i` (01 R15). -/
inductive Port where
  | node (n p : Nat)
  | ni (i a : Nat)
deriving DecidableEq, Repr

/-- A request as an endpoint presents it to its NI (09 R287): what the NI fills in itself is not here (02 R35). -/
structure Request where
  opc : Nat
  cls : Nat
  qos : Nat := 0
  len : Nat
  addr : Nat := 0
  dst : Nat := 0
  id : Nat := 0
  data : List Byte := []
  /-- The data flits that carry POISON. -/
  bad : List Nat := []
deriving DecidableEq, Repr

/-- The shared memory ports that arbitrate transactions (04 R107, R109). -/
inductive MemPort where
  | bank (k : Nat)
  | xbar (t : Nat)
deriving DecidableEq, Repr

/-- A bit that flips of itself in a store with parity: bit `k` of entry `i` of bank `e`, 8 its parity bit (03 R545); bit `k` of the
NODE_ESC word of epoch `e`, 32 its parity bit; codeword bit `k` of the flit at place `j` of an input VC's buffer (11 R336). -/
inductive Upset where
  | entry (n e i k : Nat)
  | esc (n e k : Nat)
  | flit (n q v j k : Nat)
deriving DecidableEq, Repr

/-- What the life-cycle wipe of an adoption meets (11 R348, R349; 08 R245): the words that fail their read-back, each with how many
times it fails, and whether the ANCHOR checkpoint's ring slot reads back as written. -/
structure WipeCheck where
  fails : List (Nat × Nat) := []
  anchorOk : Bool := true
deriving DecidableEq, Repr

/-- What a crozier finds (16 R482, R484): whether the boot ROM or the ledger's device words cannot be read, the links (0) and nodes (1) that
cannot be enabled at step 7, and the NIs whose PROBE is lost at step 9. -/
structure StartCheck where
  romBad : Bool := false
  wordsBad : Bool := false
  paths : List (Nat × Nat) := []
  nis : List Nat := []
deriving DecidableEq, Repr

/-- A defect that a self-test finds (14 R425, R431, R433): KIND, UNIT, SUB and WHERE as an entry of the repair map names them, and for a
row the one column in which it is faulty, where it is one. -/
structure Defect where
  kind : Nat
  unit : Nat
  sub : Nat
  wh : Nat
  col : Option Nat := none
deriving DecidableEq, Repr

/-- Where a service-port frame ended (09 R294). -/
inductive Cut where
  | beforeCommand
  | read (addr len : Nat) (bytes : Nat) (statusOut : Bool)
  | write (addr len : Nat) (data : List Byte)
deriving DecidableEq, Repr

inductive Instr where
  | flitReceive (r : Port) (errs : BitVec 148) (ups : List Upset)
  | creditReturn (s : Port) (vc : Nat)
  | escapeWaitExpiry (n p vc : Nat)
  | outputArbitration (s : Port)
  | headAged (r : Port) (vc : Nat)
  | slotBoundary
  | arbActivation (n : Nat)
  | bankPortGrant (m : MemPort) (asks : List Nat)
  | requestInject (ni cls : Nat) (r : Option Request)
  | requestDeliver (ni : Nat)
  | endpointResponse (ni : Nat) (idx : Nat) (status : Nat) (data : List Byte)
  | responseAccept (ni : Nat)
  | responseDelivered (ni tag : Nat)
  | responseTimeout (ni tag : Nat)
  | tagHoldExpiry (ni tag : Nat)
  | sinkWdogExpiry (ni cause : Nat)
  | sinkResume (ni : Nat)
  | lpPwrOkFall (ni : Nat)
  | lpPwrOkRise (ni : Nat)
  | msgQueueTaken (hp : Nat)
  | hostEventDeliver (hp : Nat)
  | serviceRead (addr len : Nat)
  | serviceWrite (addr : Nat) (data : List Byte)
  | serviceStatus
  | serviceBadCommand (cmd : Nat)
  | serviceFrameCut (c : Cut)
  | debugAccess (addr : Nat) (data : Word) (wr : Bool)
  | epochChangeStart
  | epochVerify (bad : Option Nat)
  | switchBroadcast
  | epochDrained
  | drainTimeout
  | routeTableAudit (ups : List Upset)
  | nodeFlush (n : Nat) (even odd : Bool)
  | refclkLock
  | refclkLoss
  | ppsEdge (at256 : Nat)
  | ppsMiss
  | todArm (lo : Option Word) (hi : Word)
  | todExpiry
  | todFreeSet (lo : Option Word) (hi : Word)
  | stepAuthorise (w : Word)
  | stepApply
  | tuTimeCapture
  | latticeEdge
  | latticeWordReceive (n : Nat) (errs : BitVec 64)
  | cellSourceFault (n : Nat)
  | echoRound (n src rtt rho : Nat) (cleanA cleanB : Bool)
  | latticeRevert
  | latticeForceB (on : Bool)
  | timedStrobe (n : Nat)
  | ppsOutPulse (rise : Bool)
  | csqOpen (k : Nat) (w : Word)
  | csqLaunch (k : Nat) (w : Word)
  | csqAbort (k : Nat) (w : Word)
  | streamPacketSend (bank att : Nat)
  | prepareReceive (ni : Nat)
  | stageReceive (ni : Nat)
  | stageEndReceive (ni : Nat)
  | voteWaitExpiry (ni k : Nat)
  | recordNoPrepareExpiry (ni k : Nat)
  | recordNoTExpiry (ni k : Nat)
  | shadowLoadStart (ni k : Nat)
  | shadowLoadComplete (ni k : Nat)
  | shadowLoadParityError (ni k : Nat)
  | voteReceive
  | voteCutoff (k : Nat)
  | armReceive (ni : Nat)
  | armAckReceive
  | guardDeadline (k : Nat)
  | openLimitExpiry (k : Nat)
  | abortMsgReceive (ni : Nat)
  | abortLineReceive (ni k : Nat) (a b : Bool)
  | abortLineInvalid (ni k tree : Nat) (back : Bool)
  | commitRelease (ni k : Nat)
  | ruleSetSwap (ni : Nat)
  | applyAckReceive (ni k frac256 : Nat)
  | applyAckTimeout (ni k : Nat)
  | releasedReceive
  | reportDeadline (k : Nat)
  | abortNetTest
  | abortNetPeriodicTest (tree line : Nat)
  | abortTestReturn (tree line delay : Nat)
  | abortTestTimeout (tree line : Nat)
  | lockstepMismatch
  | csqLockstepReset
  | frondSeal (bank : Nat) (w : Word)
  | sealComplete (bank : Nat)
  | frondRetire (bank : Nat) (w : Word)
  | retireComplete (bank : Nat)
  | recordForm
  | checkpointForm (readBackOk : Bool)
  | checkpointTimer
  | checkpointRequest
  | checkpointHoldExpiry
  | logDisable
  | logEnable
  | drainEnable (w : Word)
  | drainSend
  | tailRelease (v : Word)
  | mgMapDistribute
  | mgMapActivate
  | windowRead (w : Word)
  | windowWrite (w : Word) (src : Nat)
  | windowOpComplete
  | swapSchedule
  | swapCancel
  | scrubRead (r : Nat) (errs : List Nat)
  | correctionWriteBack (addr : Nat)
  | bankWipe (w : Word)
  | bankWipeComplete
  | repeatClear
  | eventReceive (src cls : Nat)
  | ackTimerExpiry (c : Nat)
  | faultAck (w : Word)
  | faultClear (w : Word)
  | safeExit (w : Word) (mg : Nat)
  | heldEventsSend
  | collectorMismatch (parity good : Bool)
  | domainEntry (w : Word)
  | domainEntryTest (w : Word)
  | entryContinue (d : Nat)
  | sdEntry (w : Word)
  | sdDrainTimeout
  | selftestEnd (d steps misr firstFail : Nat) (defects : List Defect) (readBackOk : Bool)
  | domainWake (w : Word) (service : Bool)
  | wakePowerGood (d : Nat) (poisoned : List (Nat × Nat))
  | wakeInclude (d : Nat)
  | wakeTimeout (d reason : Nat)
  | wakeRetry (d : Nat)
  | wakePin (k : Nat)
  | wakeTimerFire
  | portRelease (w : Word)
  | railPgFall (r : Nat)
  | railTargetRequest (w : Word)
  | railFallResume (r : Nat)
  | railConfirm (r statusWord readVout : Nat)
  | railConfirmTimeout (r statusWord : Nat)
  | vfloorWrite (w : Word)
  | smbalert (answers : List (Nat × Nat))
  | imageRead
  | laneSpare (n p wire : Nat)
  | laneSpareSwitchRx (n p : Nat)
  | laneWatchReset
  | marginTrim (n path slack cycle : Nat)
  | counterSnapshot
  | dumpComplete
  | dumpOneShot
  | periodDistribute (w : Word)
  | periodActivate
  | sampleClear (ni : Nat)
  | powerOnReset
  | fabricReset
  | topSoftReset (w : Word) (mg : Nat)
  | stwWdogExpiry (sc : StartCheck)
  | resync (w : Word) (mg : Nat)
  | cfgSave (w : Word) (mg : Nat) (image : Option (List Byte)) (readBackOk : Bool)
  | cfgErase (w : Word) (mg : Nat)
  | epochRebuild (w : Word) (mg : Nat)
  | isolate (w : Word) (mg : Nat)
  | returnObject (w : Word) (mg : Nat) (probeOk : Bool)
  | recordsRead (w : Word) (mg : Nat)
  | lcPrepare (w : Word) (mg : Nat) (noise : List (BitVec 2048))
  | lcPrepareDrained
  | noiseRead (w : Word) (mg : Nat)
  | mboxUnknown (w : Word) (mg : Nat)
  | lcAdopt (wc : WipeCheck)
  | lcInvalid (pins : BitVec 8)
  | lcValidReturn
  | cartInsert (image : List (Nat × Byte))
  | cartRemove (badWords : List Nat)
  | anchorInstall (mg : Nat)
  | wearCollect
  | wearTransfer (badWords : List Nat)
  | lifeWalk
  | lifeWalkRequest
  | pageCommit (page : Nat)
  | shadowDiscard (page : Nat)
  | registerWrite (addr : Nat) (w : Word) (src : Nat)
  | linkWireFault (n p : Nat)
  | rhizineChainBreak (n : Nat)
  | porstRelease (lc : BitVec 8) (vout : List Nat) (wc : WipeCheck) (sc : StartCheck)
  | frstRelease (sc : StartCheck)
  | pgRise (r : Nat)
  | pgMissingTimeout
  | lpApplyAckFall (ni : Nat)
  | bothInvalidCheck (ni k : Nat)
  | walkComplete
  | signatureVerifyEnd
deriving DecidableEq, Repr

end Sys2Proof
end

