-- ==== Sys2Proof/Decode.lean ====
section
/-! DEFINITION. The commands that words spell. spec/opcode_table.json gives none of its rows bits: the block has no
instruction decoder, and its commands come as happenings at its boundary. -/
namespace Sys2Proof

-- DESIGN CHOICE (notes/assumptions/7.md)
/-- The command that the table's bits spell: none, since the table gives no row any. -/
def decodeTableWord (_nbits _w : Nat) : Option Instr := none

end Sys2Proof
end

