-- ==== Sys2Proof/Config.lean ====
section
/-! DEFINITION. What the spec leaves open: values of the silicon, of a device's own factory data, and the free values.
Nothing here has a body, so no statement can rest on one of these values. -/
namespace Sys2Proof.Config

-- DESIGN CHOICE (notes/assumptions/1.md)
/-- FREE VALUE: the n-th value that the spec leaves open during a run (notes/assumptions/1.md).
The step reads the counter `Block.free` and advances it. -/
opaque freeNat : Nat → Nat

-- DESIGN CHOICE (notes/assumptions/8.md)
/-- The 9 check bits of the link's SEC-DED code over wires 0-134: 02 R26 names the kind of code, not its matrix. -/
opaque checkBits : Flit → BitVec 9

-- DESIGN CHOICE (notes/assumptions/9.md)
/-- A byte of the boot ROM: its contents are the maker's (16, "The steward"). -/
opaque romByte : Nat → Byte

-- DESIGN CHOICE (notes/assumptions/9.md)
/-- A byte of the retention store below the pending wear area while the registers in its first argument are saved: the spec
gives the images no layout (13 R408; notes/assumptions/9.md). -/
opaque retentionByte : List (Nat × Word) → Nat → Byte

/-- A byte of the ledger's device words, from the recorded state, the prepared target (256: none), the power epoch and the
byte's place: the spec names what they hold and gives no layout (16 R473). -/
opaque deviceByte : Nat → Nat → Nat → Nat → Byte

/-- The MISR signature that the boot ROM holds for a plan (14 R424). -/
opaque planSignature : Nat → Nat

-- DESIGN CHOICE (notes/assumptions/96.md)
/-- FREE VALUE: the error of node n's time cell on source s, before it is brought within the bounds of 05 R146. -/
opaque cellError : Nat → Nat → Nat

-- DESIGN CHOICE (notes/assumptions/25.md)
/-- FREE VALUE: which of the equal shortest paths the steward's k-th table computation takes from node `n` to the destination
of entry `i` (03 R60: "chooses freely"). -/
opaque routeChoice : Nat → Nat → Nat → Nat

end Sys2Proof.Config
end

