-- ==== Sys2Proof/Machine/State.lean ====
section
/-! DEFINITION. Everything the spec gives the block to hold, as plain data, and the block right after reset.
Register words live in ONE register file (`Block.regs`, sparse: an unlisted word holds its reset value of Machine/Regs.lean);
hidden state (queues, records, timers, buffers) has a record for each unit. -/
namespace Sys2Proof.Machine

/-- A finite map in one canonical form: keys strictly rising, no entry equal to the map's default value. -/
abbrev AMap (β : Type) := List (Nat × β)

/-- Who stopped the block. -/
inductive Fault where
  /-- A command names an object that the spec says does not exist (node 112, NI 216, slot 4, ...). Raised by every command's
  operand check. Safe: no command with operands in range raises it. -/
  | noSuchObject
deriving DecidableEq, Repr

/-- A command without a meaning. -/
inductive Refusal where
  /-- Only Machine/Dispatch.lean raises it, for a row that is not modelled. Safe: nothing can be proved of such a row. -/
  | notModelled (mnemonic : String)
deriving DecidableEq, Repr

/-- A packet whole (02 R33, R34): the head's fields and the data flits with their POISON bits.
`mid` is head bits [95:48]: ADDR of a request; REQ_STAMP, zeros and STATUS of a response. -/
structure Packet where
  stamp : Nat := 0
  mid : Nat := 0
  dst : Nat
  src : Nat
  opc : Nat
  cls : Nat
  qos : Nat := 0
  len : Nat
  tag : Nat := 0
  rep : Nat := 0
  flits : List (BitVec 128 × Bool) := []
  /-- The instant at which the endpoint presented a sampled WRP (15 R462); not a wire of any flit. -/
  issue : Option Nat := none
  /-- What follows is no wire of any flit: the attachment that delivered it (10 R309), its peristome's verdict at the decoding of its
  head (10 R304), the elapsed instant at which its NI had it whole, or its endpoint took it, and the header stamp of its arrival
  (09 R278, R287). -/
  via : Nat := 0
  peri : Nat := 0
  since : Nat := 0
  arr : Nat := 0
deriving DecidableEq, Repr

/-- An event (12 R359, R361). -/
structure Event where
  src : Nat
  cls : Nat
  lvl : Nat
  detail : Nat
  merged : Nat := 0
  stamp : Stamp := 0
deriving DecidableEq, Repr

/-! ### Nodes (02, 03, 04) -/

/-- The packet being received on an input VC (02 R24-R26). -/
structure RxPkt where
  cls : Nat
  rep : Nat
  dst : Nat
  nData : Nat := 0
  discard : Bool := false
deriving DecidableEq, Repr

/-- The packet at the front of an input VC, once its route is read (03 R59, R63; 04 R97). -/
structure Front where
  cls : Nat
  rep : Nat
  dst : Nat
  nport : Nat
  eport : Nat
  onEsc : Bool := false
  toEsc : Bool := false
  mayEsc : Bool := false
  started : Bool := false
  aged : Bool := false
  since : Nat := 0
  escWait : Nat := 0
  cand : Option Nat := none
deriving DecidableEq, Repr

/-- One VC buffer of an input port, 4 flits deep (00 R3, 02 R31). -/
structure VcBuf where
  /-- Each stored flit with the wrong bits of its stored code word (11 R336). -/
  flits : List (Flit × List Nat) := []
  rx : Option RxPkt := none
  front : Option Front := none
deriving DecidableEq, Repr

-- DESIGN CHOICE (notes/assumptions/94.md)
/-- An output port of a node, or an NI's injection link (02 R30, R31; 04 R92-R98). `held v` is the input VC that holds output VC v.
`parked` is the input that owned it last: none before anything has. -/
structure OutPort where
  owner : Option (Nat × Nat) := none
  parked : Option Nat := none
  driven : Option Flit := none
  drep : Nat := 0
  credits : AMap Nat := []
  held : AMap (Option (Nat × Nat)) := []
  rot : AMap (List Nat) := []
  lastAged : Option Nat := none
  waste : Bool := false
deriving DecidableEq, Repr

/-- A node window as GT_WIN_DATA holds it (10 R308, R327). -/
structure Window where
  w0 : Word := 0
  w1 : Word := 0
  w2 : Word := 0
deriving DecidableEq, Repr

/-- A node. `badRt` lists the entries whose stored parity bit is wrong: 256 · epoch + entry, 217 for NODE_ESC (03 R545). -/
structure Node where
  inb : AMap VcBuf := []
  outp : AMap OutPort := []
  owed : AMap Nat := []
  arbAt : Option Nat := none
  bcast : Bool := false
  badRt : List Nat := []
  windows : AMap Window := []
deriving DecidableEq, Repr

/-- The hidden part of a node's time cell (05 R138-R145); TU_CELL[n] holds the rest. -/
structure Cell where
  /-- This cell's labels less those of the TU, in ns, once it has one. -/
  off : Option Int := none
  /-- The source that its next echo round selects: 0 as it is, 1 tree A, 2 tree B. -/
  move : Nat := 0
  wordErr : Nat := 0
  /-- It has adopted the label of a step that the TU has not applied yet. -/
  stepTaken : Bool := false
  delays : AMap (List Nat) := []
  rejects : AMap Nat := []
  crcRun : Nat := 0
  badRun : Nat := 0
  gotWord : Bool := false
  /-- It has lost its last source (R139), so TU_LATTICE.ON_NONE counts it (R145, R160). -/
  lost : Bool := false
  /-- Its copy of the time status, from the last word it took (R126). -/
  status : Nat := 0
deriving DecidableEq, Repr

/-! ### Network interfaces (02, 06, 09, 15) -/

/-- What a requester NI holds for its endpoint in answer to a transaction: the status delivered, the bytes read, the response's
header, or that of a local answer (03 R75), and the elapsed instant from which the NI offers it. -/
structure Rsp where
  status : Nat
  bytes : List Byte := []
  hdr : Packet
  since : Nat := 0
deriving DecidableEq, Repr

/-- An outstanding non-posted transaction of a requester (09 R269-R275). -/
structure Txn where
  tag : Nat
  req : Request
  pkt : Packet
  space : Nat
  /-- Its head left the NI at this elapsed instant; the timer runs for `limit` from it. -/
  issued : Option Nat := none
  limit : Nat := 0
  /-- Device time at which the endpoint's request beat passed into the NI (15 R462). -/
  beat : Nat := 0
  injected : Bool := true
  rsp : Option Rsp := none
  /-- It ends ABORTED under 09 R277: its response came while the endpoint was stuck. -/
  stuck : Bool := false
  sampled : Bool := false
deriving DecidableEq, Repr

/-- A request as an NI puts it on the target request channel of its port: OPC, LEN, SRC, the window offset, and the data beats
(09 R278, R288). -/
structure ReqBeat where
  opc : Nat
  len : Nat
  src : Nat
  off : Nat
  data : List Nat := []
deriving DecidableEq, Repr

/-- A response as an NI puts it on the source response channel of its port: the host's ID, STATUS, REQ_STAMP, the header stamp of
its arrival, and the data beats (09 R278, R287). -/
structure RspBeat where
  id : Nat
  status : Nat
  reqStamp : Nat
  arrStamp : Nat
  data : List Nat := []
deriving DecidableEq, Repr

/-- A beat of a shadow load: OFFSET, VALUE and HOP of each valid lane, and FIRST (09 R280). -/
structure LoadBeat where
  lanes : List (Nat × Nat × Nat)
  first : Bool
deriving DecidableEq, Repr

/-- An interrupt write that waits at a host port: its line, window offset and data (09 R290). -/
structure Msi where
  line : Nat
  off : Nat
  data : Nat
  since : Nat := 0
deriving DecidableEq, Repr

/-- A packet that an NI is receiving: its flits so far, its peristome's verdict (10 R304), and whether what follows of it is
discarded through its tail. -/
structure Asm where
  flits : List Flit := []
  peri : Nat := 0
  discard : Bool := false
deriving DecidableEq, Repr

/-- A staged entry held in a record: its 64 bits (02 R43), whether it arrived bad (06 R178), whether its word has failed its
check when read (06 R179), the NI that sent it, its half of the word, and the wrong bits of the stored word (11 R345). -/
structure Entry where
  bits : BitVec 64
  bad : Bool
  par : Bool := false
  src : Nat
  half : Nat := 0
  flips : List Nat := []
deriving DecidableEq, Repr

/-- A target's commit record for one slot (06 R176-R183, R186-R192). Loads: 0 none, 1 waiting, 2 running since `loadAt`, 3 done, 4 abandoned,
with `begun` if entries of it stand in the engine's shadow. `loaded`: the indices of the entries that the load takes.
`staged`: its first STAGE has arrived; `full`: no bank was free for it then, so no entry of the commit is stored.
`endAt` is COUNT, CRC-64 and the elapsed instant of the STAGE_END; `applied`: T has passed and the record releases; `keep`: an
abort seen in the last 2 ns before T lets the release happen (R187). -/
structure CRec where
  isOpen : Bool := false
  cseq : Nat := 0
  openedAt : Nat := 0
  prep : Bool := false
  prepAt : Nat := 0
  tNs : Option Nat := none
  src : Nat := 0
  noStage : Bool := false
  swap : Bool := false
  bank : Option (Fin 2) := none
  entries : AMap (Option Entry) := []
  staged : Bool := false
  full : Bool := false
  noRoom : Bool := false
  mismatch : Bool := false
  endAt : Option (Nat × Nat × Nat) := none
  vote : Option Nat := none
  load : Nat := 0
  loadAt : Nat := 0
  begun : Bool := false
  loaded : List Nat := []
  armRx : Bool := false
  armed : Bool := false
  applied : Bool := false
  keep : Bool := false
deriving DecidableEq, Repr

/-- A latency sample in the making or stored (15 R462): 32 bytes. -/
abbrev Sample := List Byte

structure Ni where
  tx : AMap (List Packet) := []
  inj : AMap OutPort := []
  injRest : AMap (List Flit) := []
  injPkt : AMap (Option Packet) := []
  injAged : AMap Bool := []
  injCand : AMap (Option Nat) := []
  asm : AMap Asm := []
  owed : AMap Nat := []
  rx : List Packet := []
  bal : AMap Int := []
  waitq : AMap (List (Request × Nat)) := []
  txns : List Txn := []
  /-- Transactions that have ended ABORTED, their tags no longer theirs, which the endpoint has not been told of (09 R273, R277). -/
  ended : List Txn := []
  heldTags : List (Nat × Nat) := []
  toEnd : List Packet := []
  msgq : List Packet := []
  msi : List Msi := []
  /-- The elapsed instants at which a beat last passed on a channel toward the endpoint, by the CAUSE code it has in R299. -/
  passed : AMap Nat := []
  /-- What passed last on each channel toward the endpoint: a request, a response, the beats of a shadow load, of a message queue
  entry (its header and data), and an interrupt write (09 R278-R290). -/
  outReq : Option ReqBeat := none
  outRsp : Option RspBeat := none
  outLoad : List LoadBeat := []
  outMsg : List Nat := []
  outMsi : Option Msi := none
  recs : AMap CRec := []
  /-- The slot whose entries stand in, or move into, the loop engine's shadow (06 R182). -/
  shadow : Option Nat := none
  lpApply : Bool := false
  lpAck : Bool := false
  /-- The elapsed instant at which the last LP_DISCARD pulse falls (09 R282). -/
  lpDiscard : Nat := 0
  /-- The label, in 1/256 ns, at which the rule set changes (10 R319). -/
  swapAt : Option Nat := none
  /-- Invalid lines of the abort net: 4 · tree + slot (06 R184). -/
  badLines : List Nat := []
  sampleN : Nat := 0
  samples : AMap Sample := []
  drop69 : Bool := false
deriving DecidableEq, Repr

/-! ### Units -/

/-- An authorised or scheduled time step (05 R131-R135). Cause: 0 authorised, 1 first edge, 2 edge while UNSET, 3 FREE. -/
structure TimeStep where
  at256 : Nat
  delta : Int
  cause : Nat
  seq : Nat := 0
  aborted : Nat := 0
deriving DecidableEq, Repr

/-- Tree A, tree B or the ring as the TU drives it (05 R136): the label, in 1/256 ns, of the edge launched last, the word bit that went
with it, and the level of the frame-mark wire. -/
structure Carrier where
  edge : Option Nat := none
  bit : Bool := false
  mark : Bool := false
deriving DecidableEq, Repr

structure Tu where
  setMade : Bool := false
  missRun : Nat := 0
  lostCap : Option Nat := none
  lastValid : Option Nat := none
  armedAt : Option Nat := none
  step : Option TimeStep := none
  /-- The second label last pulsed on PPS_OUT, and the elapsed instant of the rise. -/
  pulsed : Option Nat := none
  roseAt : Nat := 0
  ppsOut : Bool := false
  word : BitVec 64 := 0
  lastWord : BitVec 64 := 0
  /-- Tree A, tree B and the ring, by source code. -/
  lattice : AMap Carrier := []
  /-- The rate corrections of 05 R122 in ppb: the steering from PPS, what closes e or r until the elapsed instant `closeEnd`, and the
  oscillator's trim. -/
  steer : Int := 0
  close : Int := 0
  closeEnd : Nat := 0
  trim : Int := 0
deriving DecidableEq, Repr

structure Vote where
  code : Nat := 15
  count : Nat := 0
  crc : Nat := 0
deriving DecidableEq, Repr

structure Report where
  result : Nat := 0
  cause : Nat := 0
  frac : Nat := 0
  stamp : Stamp := 0
deriving DecidableEq, Repr

/-- A commit slot's hidden state (06 R165-R200). Abort: outcome code, cause, elapsed instant of the decision. -/
structure Slot where
  prepared : List Nat := []
  votes : AMap Vote := []
  acks : List Nat := []
  reports : AMap (Option Report) := []
  cid : Nat := 0
  openAt : Nat := 0
  launchAt : Option Nat := none
  tNs : Nat := 0
  armSent : Bool := false
  abort : Option (Nat × Nat × Nat) := none
  lineUp : Bool := false
  lineFell : Option Nat := none
  mode : Bool := false
  swap : Bool := false
  frond : Nat := 0
  mask : Nat := 0
  gen : Nat := 0
  digests : List (Nat × List Byte) := []
  hostDigest : List Byte := []
  worst : Nat := 1
  reserved : Bool := false
deriving DecidableEq, Repr

structure Csq where
  cid : Nat := 0
  slots : AMap Slot := []
  bad : Bool := false
  passA : Nat := 0
  passB : Nat := 0
  /-- Abort-net test pulses under way: 4 · tree + line, and the elapsed instant at which each leaves (R188). -/
  tests : List (Nat × Nat) := []
deriving DecidableEq, Repr

/-- One stream queued in a bank (07 R226): `next` is the next STAGE packet's number. -/
structure Stream where
  slot : Nat
  cseq : Nat
  frond : Nat
  ni : Nat
  count : Nat
  addr : Nat
  crc : Nat
  next : Nat := 0
deriving DecidableEq, Repr

/-- A seal that runs: its arguments (07 R231), the bytes of its segment that it has read, the bytes of those of its words that did not read
OK, whether one read POISONED, and whether a write has landed in the segment. -/
structure Seal where
  frond : Nat
  base : Nat
  size : Nat
  n : Nat
  mask : Nat
  gen : Nat
  touched : Bool := false
  done : Nat := 0
  seen : List (Nat × List Byte) := []
  poisoned : Bool := false
deriving DecidableEq, Repr

/-- The next STAGE packet of a queue while its entries are read: its stream, the grants still to come, the bytes read, and the words
that read POISONED. -/
structure StreamRead where
  s : Stream
  left : Nat
  bytes : List Byte := []
  bad : List Nat := []
deriving DecidableEq, Repr

/-- A frame-store bank's streamer and seal logic. By attachment: the streams queued, the slot served last, the read under way, and the
stream whose packet was sent last. `dirty`: fronds in which a write has landed since their streams were pinned (07 R223). -/
structure Fs where
  sealing : Option Seal := none
  retiring : Option Nat := none
  queues : AMap (List Stream) := []
  last : AMap Nat := []
  reads : AMap (Option StreamRead) := []
  flying : AMap (Option Stream) := []
  dirty : List Nat := []
deriving DecidableEq, Repr

/-- Data of a record that waits to be formed (08 R241, R242), with the elapsed instant at which it became ready; `reserved`: it uses the
reservation of its commit. -/
structure RecData where
  typ : Nat
  body : List Byte
  reserved : Bool := false
  ready : Nat := 0
deriving DecidableEq, Repr

structure Gap where
  reason : Nat
  omitted : Nat := 0
  commits : Nat := 0
  firstId : Nat := 0
  lastId : Nat := 0
  opened : Stamp := 0
  data : List Byte := []
deriving DecidableEq, Repr

structure Keys where
  hmac : List Byte := []
  seed : List Byte := []
  pub : List Byte := []
deriving DecidableEq, Repr

structure Evl where
  index : Nat := 0
  keys : Option Keys := none
  curKeys : Option Keys := none
  nextKeys : Option Keys := none
  lastMac : List Byte := []
  run : List (List Byte) := []
  firstCtr : Nat := 0
  /-- Elapsed instants of the previous checkpoint and of the next one's 1 s timer. -/
  lastCkpt : Option Nat := none
  timerAt : Option Nat := none
  ckptHeld : Bool := false
  due : Option Nat := none
  queue : List RecData := []
  resv : Nat := 0
  /-- Reservations that a fabric reset released: slot and commit id (R241). -/
  lost : List (Nat × Nat) := []
  gap : Option Gap := none
  dbgAt : Option Nat := none
  suppressed : Nat := 0
  disabling : Bool := false
  /-- The BOOT record of the last PORST has been formed: no record comes before it (R238). -/
  booted : Bool := false
  /-- CHAIN_CTR of the hand-over checkpoint (R248). -/
  handover : Nat := 0
  /-- The ledger ring slot that the next checkpoint takes (R245). -/
  ringNext : Nat := 0
deriving DecidableEq, Repr

/-- The gate manager: the map under distribution by register offset (10 R307), and the window operation that runs: a write or
a read, its node, set and window (R327). -/
structure Gt where
  next : Option (AMap Word) := none
  op : Option (Bool × Nat × Nat × Nat) := none
deriving DecidableEq, Repr

structure Repeat where
  addr : Nat
  region : Nat
  count : Nat
deriving DecidableEq, Repr

-- DEDUCED (notes/assumptions/14.md)
/-- The memory manager: poison list (address, region), repeat table (least recently changed first), waiting write-backs,
running wipe, the rows mapped into spares (region, sub-array, row, spare), the columns and buffer rows so mapped (KIND, UNIT, SUB,
WHERE and SPARE of 14 R433), and the elapsed instant of each scrub engine's last read
(11 R337-R350). -/
structure Mm where
  poison : List (Nat × Nat) := []
  repeats : List Repeat := []
  backs : List Nat := []
  wiping : List Nat := []
  rows : List (Nat × Nat × Nat × Nat) := []
  cols : List (Nat × Nat × Nat × Nat × Nat) := []
  lcWipe : Bool := false
  scrubAt : AMap Nat := []
deriving DecidableEq, Repr

/-- The fault collector, by class: the last fault (12 R371), the sources whose faults it holds (R369), the elapsed instant of its
timer (R367), and the EVENT held for hosts, with whether it goes to all of them (R379). -/
structure Fc where
  last : AMap (Option Event) := []
  srcs : AMap (List Nat) := []
  timers : AMap (Option Nat) := []
  heldEv : AMap (Option (Event × Bool)) := []
deriving DecidableEq, Repr

/-- A domain's hidden power state (13 R393-R404). -/
structure Dom where
  /-- Powered and out of reset: its pages act and its nodes count time. -/
  up : Bool := false
  /-- The state that an entry in progress leads to: 1 RETAIN, 2 OFF. -/
  target : Nat := 0
  test : Bool := false
  /-- The self-test plan that runs: 0 full, 1 short. -/
  planRun : Option Nat := none
  /-- The elapsed instant at which SD's drain, a wake attempt, or the wait after a failed attempt began. -/
  since : Nat := 0
  /-- The plan runs at a wake or at the crozier (14 R428). -/
  atWake : Bool := false
  /-- Source code (R401) and lowest domain index of the wake in progress. -/
  src : Nat := 0
  group : Nat := 0
  latched : Option (Nat × Nat) := none
  /-- The rail was turned on for this wake (R404). -/
  railOn : Bool := false
  /-- The attempt has failed and the next waits its 100 µs (R404). -/
  retry : Bool := false
  /-- The wake in progress began from OFF, so the arrays are wiped. -/
  fromOff : Bool := false
  /-- Included in the current epoch since it last came on (R400). -/
  included : Bool := false
  /-- The wake waits for SD (R399). -/
  waitSd : Bool := false
  /-- The result of this domain in a wake that goes on in others (R403). -/
  result : Option Nat := none
  /-- RESULT of a self-test whose record failed its read-back: it stays in the working SRAM (14 R427). -/
  ramResult : Option Nat := none
  /-- The plan that a fabric reset stopped in phase 5 (14 R430). -/
  cut : Option Nat := none
deriving DecidableEq, Repr

structure Rail where
  /-- The elapsed instant at which the rail change began. -/
  since : Option Nat := none
  /-- The last READ_VOUT (R409). -/
  vout : Nat := 0
  /-- VOUT_MODE is not linear: the rail is never commanded (R409). -/
  fixed : Bool := false
deriving DecidableEq, Repr

/-- The power manager: domains, rails, the retention images (register key to saved word, 13 R408), and the PMBus commands sent
(rail, code, data). -/
structure Pm where
  doms : AMap Dom := []
  rails : AMap Rail := []
  images : AMap Word := []
  winImages : AMap Window := []
  bus : List (Nat × Nat × Nat) := []
deriving DecidableEq, Repr

/-- The dump being written (15 R460): its header's fields, its address, whether a write has failed, the pages whose images are still to be
written, each with whether its domain was ON at the instant, the bytes of the first of them that have been read, and the address of
its image. -/
structure Dump where
  seq : Nat
  status : Nat
  pages : Nat
  instant : Stamp
  skipped : Nat
  base : Nat
  failed : Bool := false
  todo : List (Nat × Bool) := []
  got : List Byte := []
  dest : Nat := 0
deriving DecidableEq, Repr

/-- The performance reader: the label of the one-shot instant, the PERIOD in distribution, the one in force, and the dump. -/
structure Pr where
  shotAt : Option Nat := none
  newPeriod : Option Nat := none
  period : Nat := 0
  dump : Option Dump := none
deriving DecidableEq, Repr

/-- Why the steward makes an epoch change (03 R64). -/
inductive Cause where
  | entry (doms : List Nat) (test : Bool)
  | tested (doms : List Nat)
  | wake (dom : Nat)
  | audit
  | contain (cls : Nat)
  | railLost
  | mailbox (cmd : Nat)
  | probe
deriving DecidableEq, Repr

/-- An epoch change in progress: the step of 03 R68 it has reached, the attempts cancelled, the live nodes and NIs that step 2 computed,
the NIs that were live and leave, and the elapsed instant of the switch broadcast. -/
structure Change where
  cause : Cause
  step : Nat := 1
  tries : Nat := 0
  live : List Nat := []
  nis : List Nat := []
  leaving : List Nat := []
  sent : Nat := 0
deriving DecidableEq, Repr

/-- A wire to be spared (14 R437): input port `q` of node `n`, the wire, and once its sender drives a spare, that spare and the
elapsed instant at which the receiver may switch. -/
structure LaneReq where
  n : Nat
  q : Nat
  w : Nat
  sent : Option (Nat × Nat) := none
deriving DecidableEq, Repr

/-- A record of a configuration body (16 R476). -/
structure CfgRec where
  reg : Nat
  stage : Nat
  pages : Nat
  words : List Word
deriving DecidableEq, Repr

structure Stw where
  change : Option Change := none
  queue : List Cause := []
  /-- Attempts that have been cancelled at the change that heads the queue (03 R548). -/
  tries : Nat := 0
  isoNodes : List Nat := []
  isoNis : List Nat := []
  isoLinks : List Nat := []
  stranded : List Nat := []
  /-- The mailbox command that runs; `waits`: it came by a register write and runs when what it takes from outside is known. -/
  mbox : Option Word := none
  waits : Bool := false
  gen : Nat := 0
  tables : AMap Word := []
  testing : List Nat := []
  /-- The crozier is the one of a PORST, and what it finds: VOUT_MODE of each rail, what the wipe of an adoption meets (11 R349), and what
  cannot be read, enabled or reached (16 R482, R484). -/
  fromPorst : Bool := false
  vout : List Nat := []
  wipe : WipeCheck := {}
  start : StartCheck := {}
  /-- The records of the configuration copy that the crozier has selected (R477). -/
  cfg : List CfgRec := []
  /-- The elapsed instant at which TOP_WDOG.EN was last set (R472). -/
  wdogAt : Nat := 0
  /-- Bring-up rules are in use: the configuration holds no rule sets (10 R323). -/
  bringUp : Bool := false
  brk : Option Nat := none
  /-- Slot tables or measured speeds have changed since the steward last computed PM_VFLOOR (04 R112). -/
  floorDue : Bool := false
  lanes : List LaneReq := []
  /-- Configuration words whose page's domain was not ON: page, offset, word (R479). -/
  later : List (Nat × Nat × Word) := []
  /-- The last write of a mailbox command that writes to the host, and whether an earlier one has failed (R494, R495). -/
  tail : Option (Nat × List Byte) := none
  hostFailed : Bool := false
deriving DecidableEq, Repr

/-- The life-cycle and the ledger's device words (16 R473, R485-R490): recorded state, prepared target, power epoch. `preparing`:
the target of an LC_PREPARE that runs; `handed`: the hand-over checkpoint has been formed, so the log forms nothing more. -/
structure Lc where
  recorded : Nat := 0
  target : Option Nat := none
  powerEpoch : Nat := 0
  preparing : Option Nat := none
  handed : Bool := false
deriving DecidableEq, Repr

/-- The cartridge port (17): the identity memory of the cartridge present, the open wear record, the USE_SEQ counter, a change in
progress with the old identity (R511), a verification that runs and whether a CART_CHANGE follows it (R503), the elapsed instant
at which the last transfer started, and a transfer or walk that is due (R505, R508). -/
structure Cp where
  image : AMap Byte := []
  openRec : Option Nat := none
  useSeq : Nat := 0
  oldId : List Byte := []
  changing : Bool := false
  verifying : Bool := false
  forms : Bool := false
  lastXfer : Option Nat := none
  xferDue : Bool := false
  walkDue : Bool := false
deriving DecidableEq, Repr

/-- The DBG_ACCESS register (19 R541). -/
structure Dbg where
  addr : Nat := 0
  data : Word := 0
  wr : Bool := false
  busy : Bool := false
  status : Nat := 0
deriving DecidableEq, Repr

/-- What a transaction at a shared memory port does: a request's access, a read of a streamer for a STAGE packet of one attachment
(07 R226), the next 256 bytes of a seal (07 R220), or an access of the steward's own, whose effect is elsewhere (04 R109). -/
inductive MemJob where
  | access (p : Packet)
  | stream (att : Nat)
  | seal
  | own
deriving DecidableEq, Repr

/-- A transaction that waits at a shared memory port (04 R107), with its requester there and its QOS. -/
structure MemTxn where
  who : Nat
  qos : Nat
  job : MemJob
deriving DecidableEq, Repr

-- DESIGN CHOICE (notes/assumptions/94.md)
/-- A shared memory port: what waits, the longest waiting first, its rotation of requesters ([] before any grant: in number order), its
grants modulo 16, and the requester on which it is parked. -/
structure MPort where
  wait : List MemTxn := []
  rot : List Nat := []
  grants : Nat := 0
  parked : Option Nat := none
deriving DecidableEq, Repr

/-- Levels of the input pins (19 R530), true for high or present; LC[7:0]; the loop NIs whose LP_PWR_OK is high (09 R283). PG[r]
stands in PM_RAIL_STATUS[r].PG (13 R419). -/
structure Pins where
  porst : Bool := false
  frst : Bool := true
  cart : Bool := false
  lc : BitVec 8 := 0
  lpPwr : List Nat := []
deriving DecidableEq, Repr

-- DESIGN CHOICE (notes/assumptions/2.md)
/-- Every unit of the block but its addressed memories. -/
structure Block where
  regs : AMap Word := []
  live : AMap Word := []
  cnt : AMap Counter := []
  events : List Event := []
  now : Nat := 0
  elapsed : Nat := 0
  tu : Tu := {}
  cells : AMap Cell := []
  nodes : AMap Node := []
  nis : AMap Ni := []
  ports : AMap MPort := []
  csq : Csq := {}
  fs : AMap Fs := []
  evl : Evl := {}
  gt : Gt := {}
  mm : Mm := {}
  fc : Fc := {}
  pm : Pm := {}
  pr : Pr := {}
  stw : Stw := {}
  lc : Lc := {}
  cp : Cp := {}
  dbg : Dbg := {}
  lastCut : Bool := false
  spOut : List Byte := []
  pins : Pins := {}
  free : Nat := 0
deriving DecidableEq, Repr

/-- Flags and stored bit errors of one 16-byte memory word (11 R333, R335, R345). -/
structure WFlags where
  valid : Bool := false
  poison : Bool := false
  flips : List Nat := []
deriving DecidableEq, Repr

/-- The addressed memories (18 R515): bytes at their 48-bit addresses (an unlisted byte reads 0), and the words' flags,
keyed by address div 16. -/
structure Mem where
  cells : List Host.Cell := []
  flags : AMap WFlags := []
deriving DecidableEq, Repr

/-- The block: its units, its memories, and the commands that wait, first in first out. -/
structure State where
  blk : Block := {}
  mem : Mem := {}
  pending : List Instr := []
deriving DecidableEq, Repr

-- DESIGN CHOICE (notes/assumptions/2.md)
/-- The block while PORST_N is low and nothing has happened yet (16 R470): every register word at its reset value, every
buffer empty, device time 0 with status UNSET, no command waiting. -/
def State.reset : State := {}

end Sys2Proof.Machine
end

