-- ==== Sys2Proof/Machine/Ops.lean ====
section
/-! DEFINITION. The shared operations: finite maps, the addressed memories, the working state a meaning computes on,
free values, and the conversions of device time. -/
namespace Sys2Proof.Machine

/-! ### Finite maps -/

/-- The value at key `k`; an unlisted key holds `d`. -/
def AMap.get {β : Type} (d : β) : AMap β → Nat → β
  | [], _ => d
  | (k', v) :: m, k => if k' = k then v else AMap.get d m k

/-- Put the entry (k, v) in its place. -/
def AMap.put {β : Type} : AMap β → Nat → β → AMap β
  | [], k, v => [(k, v)]
  | (k', v') :: m, k, v =>
    if k < k' then (k, v) :: (k', v') :: m
    else if k = k' then (k, v) :: m
    else (k', v') :: AMap.put m k v

/-- Store `v` at `k`, keeping the canonical form for the default `d`. -/
def AMap.set {β : Type} [DecidableEq β] (d : β) (m : AMap β) (k : Nat) (v : β) : AMap β :=
  if v = d then m.filter (fun e => e.1 != k) else m.put k v

/-- The canonical form: keys strictly rising and above `lo`, no entry equal to the default. -/
def AMap.wfFrom {β : Type} [DecidableEq β] (d : β) : Nat → AMap β → Bool
  | _, [] => true
  | lo, (k, v) :: m => decide (lo ≤ k) && decide (v ≠ d) && AMap.wfFrom d (k + 1) m

def AMap.wf {β : Type} [DecidableEq β] (d : β) (m : AMap β) : Bool := AMap.wfFrom d 0 m

/-- Drop every entry whose key lies in lo ≤ k < hi. -/
def AMap.drop {β : Type} (m : AMap β) (lo hi : Nat) : AMap β := m.filter (fun e => e.1 < lo || hi ≤ e.1)

/-! ### Bits and bytes -/

/-- Bits [lo + w - 1 : lo] of `n`. -/
def bitsOf (n lo w : Nat) : Nat := n / 2 ^ lo % 2 ^ w

def bit (n k : Nat) : Bool := n.testBit k

/-- `n` with bits [lo + w - 1 : lo] replaced by `v`. -/
def putBits (n lo w v : Nat) : Nat :=
  n / 2 ^ (lo + w) * 2 ^ (lo + w) + (v % 2 ^ w) * 2 ^ lo + n % 2 ^ lo

def b2n (b : Bool) : Nat := if b then 1 else 0

/-- `len` bytes of `n`, lowest first (00 R7). -/
def leBytes : Nat → Nat → List Byte
  | 0, _ => []
  | len + 1, n => BitVec.ofNat 8 n :: leBytes len (n / 256)

/-- The number that little-endian bytes spell (00 R7). -/
def leNat : List Byte → Nat
  | [] => 0
  | b :: bs => b.toNat + 256 * leNat bs

/-- Bytes `off` to `off + len - 1`, zero where the list ends. -/
def sliceBytes (bs : List Byte) (off len : Nat) : List Byte :=
  let t := (bs.drop off).take len
  t ++ List.replicate (len - t.length) 0

/-- A 16-bit (w-bit) count that stays at its top value (00 R9 notes: "stays at"). -/
def satAdd (w n k : Nat) : Nat := min (2 ^ w - 1) (n + k)

def clamp (lo hi n : Nat) : Nat := max lo (min hi n)

def ceilDiv (a b : Nat) : Nat := (a + b - 1) / b

/-- The members of 0, ..., n - 1 that `p` holds of. -/
def having (n : Nat) (p : Nat → Bool) : List Nat := (List.range n).filter p

/-- The mask whose bit k is `p k`, k < n. -/
def maskOf : Nat → (Nat → Bool) → Nat
  | 0, _ => 0
  | n + 1, p => maskOf n p + (if p n then 2 ^ n else 0)

/-! ### Memories -/

/-- What one command does to the memories, in order. -/
inductive MemOp where
  | byte (addr : Nat) (b : Byte)
  | flags (word : Nat) (f : WFlags)
  | wipe (lo hi : Nat)
deriving DecidableEq, Repr

-- DEDUCED (notes/assumptions/4.md)
/-- The flags of 16-byte word `w` (11 R333). -/
def Mem.flagsAt (m : Mem) (w : Nat) : WFlags := AMap.get {} m.flags w

-- DEDUCED (notes/assumptions/4.md)
/-- One stored byte. An unlisted byte is zero (11 R333: a word never written since a wipe reads zero). -/
def Mem.byteAt (m : Mem) (a : Nat) : Byte := AMap.get 0 m.cells a

def MemOp.apply (m : Mem) : MemOp → Mem
  | .byte a b => { m with cells := AMap.set 0 m.cells a b }
  | .flags w f => { m with flags := AMap.set {} m.flags w f }
  | .wipe lo hi => { cells := AMap.drop m.cells lo hi, flags := AMap.drop m.flags (lo / 16) (hi / 16) }

def Mem.apply (m : Mem) (ops : List MemOp) : Mem := ops.foldl MemOp.apply m

/-- The canonical form of both maps of a memory. -/
def Mem.wf (m : Mem) : Bool := AMap.wf (0 : Byte) m.cells && AMap.wf ({} : WFlags) m.flags

/-! ### The working state of a meaning -/

/-- What a meaning computes on: the units, the memories, and the memory operations it has made on them so far. -/
structure Sys where
  blk : Block
  mem : Mem
  ops : List MemOp := []

/-- Change the units only. -/
def Sys.upd (f : Block → Block) (w : Sys) : Sys := { w with blk := f w.blk }

/-- Make memory operations. -/
def Sys.emit (os : List MemOp) (w : Sys) : Sys :=
  { w with mem := w.mem.apply os, ops := w.ops ++ os }

/-- The outcome of a command whose effect is `f`: the units as `f` leaves them, the memories after `f`'s operations on
them, the queue as it was. -/
def run (f : Sys → Sys) (s : State) : Host.Outcome State Fault Refusal :=
  let w := f { blk := s.blk, mem := s.mem }
  .next { blk := w.blk, mem := s.mem.apply w.ops, pending := s.pending }

/-- The outcome of a command that changes the units only. -/
def runB (f : Block → Block) (s : State) : Host.Outcome State Fault Refusal :=
  .next { s with blk := f s.blk }

-- DESIGN CHOICE (notes/assumptions/6.md)
/-- A command acts only on objects that the spec says exist. -/
def need (ok : Bool) (o : Host.Outcome State Fault Refusal) : Host.Outcome State Fault Refusal :=
  if ok then o else .fault .noSuchObject

/-! ### Free values -/

-- DESIGN CHOICE (notes/assumptions/1.md)
/-- The next free value (notes/assumptions/1.md). -/
def Block.fresh (b : Block) : Nat × Block := (Config.freeNat b.free, { b with free := b.free + 1 })

/-! ### Device time (00 R8; 05) -/

/-- 1/256 ns in a second. -/
def secUnits : Nat := 256000000000

/-- The full stamp of a label in 1/256 ns (00 R8). -/
def stampAt (t256 : Nat) : Nat :=
  let ns := t256 / 256
  (ns / 1000000000 % 2 ^ 34) * 2 ^ 30 + ns % 1000000000

/-- The label, in ns, of a full stamp (05 R116). -/
def nsOfStamp (st : Nat) : Nat := st / 2 ^ 30 * 1000000000 + st % 2 ^ 30

/-- Is the nanosecond field of a full stamp at most 999,999,999 (05 R116)? -/
def stampOk (st : Nat) : Bool := st % 2 ^ 30 < 1000000000

/-- Device time now, as a full stamp. -/
def Block.stamp (b : Block) : Nat := stampAt b.now
def Block.frac (b : Block) : Nat := b.now % 256
/-- A header stamp (00 R8). -/
def Block.hdrStamp (b : Block) : Nat := b.now / 256 % 2 ^ 32
/-- Device time in ns. -/
def Block.nowNs (b : Block) : Nat := b.now / 256

end Sys2Proof.Machine
end

