-- ==== Sys2Proof/Machine/Crypto.lean ====
section
/-! DEFINITION. The crypto engine's functions: SHA-256 (FIPS 180-4), HMAC-SHA-256 (FIPS 198-1) and Ed25519 with its
SHA-512 (RFC 8032), as 08 R249 names them. -/
namespace Sys2Proof.Machine

/-! ### SHA-2 -/

/-- Bytes of `n`, most significant first. -/
def beBytes (len n : Nat) : List Byte := (leBytes len n).reverse
def beNat (bs : List Byte) : Nat := leNat bs.reverse

def isPrime (n : Nat) : Bool := decide (2 ≤ n) && (List.range n).all (fun d => d < 2 || n % d != 0)

/-- The first 80 primes. -/
def primes : List Nat := (List.range 410).filter isPrime

/-- The greatest r < 2^k with r^e ≤ n. -/
def rootBelow (e n : Nat) : Nat → Nat → Nat
  | 0, r => r
  | k + 1, r => rootBelow e n k (if (r + 2 ^ k) ^ e ≤ n then r + 2 ^ k else r)

/-- The first `w` bits of the fractional part of the e-th root of `p`. -/
def rootFraction (e w p : Nat) : Nat := rootBelow e (p * 2 ^ (e * w)) (w + 9) 0 % 2 ^ w

/-- A SHA-2 function: its word width, its block words, and the rotations of its four functions (the third of a small one
is a shift). -/
structure Sha where
  w : Nat
  k : List Nat
  h0 : List Nat
  up0 : Nat × Nat × Nat
  up1 : Nat × Nat × Nat
  lo0 : Nat × Nat × Nat
  lo1 : Nat × Nat × Nat

def sha256K : List Nat := (primes.take 64).map (rootFraction 3 32)
def sha256H : List Nat := (primes.take 8).map (rootFraction 2 32)
def sha512K : List Nat := (primes.take 80).map (rootFraction 3 64)
def sha512H : List Nat := (primes.take 8).map (rootFraction 2 64)

def shaParams256 : Sha :=
  { w := 32, k := sha256K, h0 := sha256H, up0 := (2, 13, 22), up1 := (6, 11, 25), lo0 := (7, 18, 3), lo1 := (17, 19, 10) }

def shaParams512 : Sha :=
  { w := 64, k := sha512K, h0 := sha512H, up0 := (28, 34, 39), up1 := (14, 18, 41), lo0 := (1, 8, 7), lo1 := (19, 61, 6) }

def Sha.rotr (h : Sha) (x k : Nat) : Nat := x / 2 ^ k + x % 2 ^ k * 2 ^ (h.w - k)
def Sha.big (h : Sha) (r : Nat × Nat × Nat) (x : Nat) : Nat := h.rotr x r.1 ^^^ h.rotr x r.2.1 ^^^ h.rotr x r.2.2
def Sha.small (h : Sha) (r : Nat × Nat × Nat) (x : Nat) : Nat := h.rotr x r.1 ^^^ h.rotr x r.2.1 ^^^ x / 2 ^ r.2.2

/-- Extend a message schedule by `n` words; `ws` holds the newest word first. -/
def Sha.schedule (h : Sha) : Nat → List Nat → List Nat
  | 0, ws => ws
  | n + 1, ws =>
    let g (k : Nat) : Nat := ws.getD k 0
    h.schedule n ((h.small h.lo1 (g 1) + g 6 + h.small h.lo0 (g 14) + g 15) % 2 ^ h.w :: ws)

def Sha.round (h : Sha) (v : List Nat) (kw : Nat × Nat) : List Nat :=
  match v with
  | [a, b, c, d, e, f, g, t] =>
    let m := 2 ^ h.w
    let t1 := t + h.big h.up1 e + ((e &&& f) ^^^ ((m - 1 - e) &&& g)) + kw.1 + kw.2
    let t2 := h.big h.up0 a + ((a &&& b) ^^^ (a &&& c) ^^^ (b &&& c))
    [(t1 + t2) % m, a, b, c, (d + t1) % m, e, f, g]
  | _ => v

def Sha.block (h : Sha) (v : List Nat) (bytes : List Byte) : List Nat :=
  let wb := h.w / 8
  let ws := (List.range 16).map (fun j => beNat ((bytes.drop (wb * j)).take wb))
  let sched := (h.schedule (h.k.length - 16) ws.reverse).reverse
  let r := (h.k.zip sched).foldl h.round v
  (v.zip r).map (fun q => (q.1 + q.2) % 2 ^ h.w)

/-- `n` blocks of a padded message. -/
def Sha.blocks (h : Sha) : Nat → List Nat → List Byte → List Nat
  | 0, v, _ => v
  | n + 1, v, bs => h.blocks n (h.block v (bs.take (2 * h.w))) (bs.drop (2 * h.w))

def Sha.digest (h : Sha) (m : List Byte) : List Byte :=
  let bl := 2 * h.w
  let lenB := h.w / 4
  let z := (bl - (m.length + 1 + lenB) % bl) % bl
  let padded := m ++ (0x80 : Byte) :: (List.replicate z 0 ++ beBytes lenB (8 * m.length))
  (h.blocks (padded.length / bl) h.h0 padded).flatMap (beBytes (h.w / 8))

def sha256 (m : List Byte) : List Byte := shaParams256.digest m
def sha512 (m : List Byte) : List Byte := shaParams512.digest m

/-- HMAC-SHA-256 under a key of at most 64 bytes. -/
def hmac (key m : List Byte) : List Byte :=
  let k := sliceBytes key 0 64
  sha256 (k.map (· ^^^ 0x5C) ++ sha256 (k.map (· ^^^ 0x36) ++ m))

/-! ### Ed25519 -/

def edP : Nat := 2 ^ 255 - 19
def edL : Nat := 2 ^ 252 + 27742317777372353535851937790883648493

/-- x^e mod `edP`, `n` bits of e from the top. -/
def edPow (x e : Nat) : Nat → Nat → Nat
  | 0, r => r
  | n + 1, r =>
    let s := r * r % edP
    edPow x e n (if e.testBit n then s * x % edP else s)

def edInv (x : Nat) : Nat := edPow x (edP - 2) 255 1
def edD : Nat := (edP - 121665) * edInv 121666 % edP

/-- A point in extended coordinates: x = X/Z, y = Y/Z, T = XY/Z. -/
structure EdPoint where
  x : Nat
  y : Nat
  z : Nat
  t : Nat

def edZero : EdPoint := { x := 0, y := 1, z := 1, t := 0 }

def EdPoint.add (p q : EdPoint) : EdPoint :=
  let a := (p.y + edP - p.x) * (q.y + edP - q.x) % edP
  let b := (p.y + p.x) * (q.y + q.x) % edP
  let c := p.t * 2 % edP * edD % edP * q.t % edP
  let d := p.z * 2 * q.z % edP
  let e := b + edP - a
  let f := d + edP - c
  let g := d + c
  let h := b + a
  { x := e * f % edP, y := g * h % edP, z := f * g % edP, t := e * h % edP }

/-- [k] p, over `n` bits of k from the top. -/
def EdPoint.mul (p : EdPoint) (k : Nat) : Nat → EdPoint → EdPoint
  | 0, r => r
  | n + 1, r =>
    let s := r.add r
    p.mul k n (if k.testBit n then s.add p else s)

def EdPoint.scale (p : EdPoint) (k : Nat) : EdPoint := p.mul k 256 edZero

def EdPoint.same (p q : EdPoint) : Bool := p.x * q.z % edP == q.x * p.z % edP && p.y * q.z % edP == q.y * p.z % edP

/-- The x of a point with the given y and sign, if there is one. -/
def edRecover (y sign : Nat) : Option Nat :=
  let u := (y * y + edP - 1) % edP
  let v := (edD * (y * y % edP) + 1) % edP
  let x2 := u * edInv v % edP
  let r := edPow x2 ((edP + 3) / 8) 255 1
  let x := if r * r % edP = x2 then some r
    else
      let s := r * edPow 2 ((edP - 1) / 4) 255 1 % edP
      if s * s % edP = x2 then some s else none
  match x with
  | none => none
  | some x => if x = 0 ∧ sign = 1 then none else if x % 2 = sign then some x else some (edP - x)

def edPoint (y x : Nat) : EdPoint := { x, y, z := 1, t := x * y % edP }

def edBase : EdPoint :=
  let y := 4 * edInv 5 % edP
  edPoint y ((edRecover y 0).getD 0)

def EdPoint.encode (p : EdPoint) : List Byte :=
  let zi := edInv p.z
  leBytes 32 (p.y * zi % edP + p.x * zi % edP % 2 * 2 ^ 255)

def edDecode (bs : List Byte) : Option EdPoint :=
  let n := leNat (sliceBytes bs 0 32)
  let y := n % 2 ^ 255
  if edP ≤ y then none else (edRecover y (n / 2 ^ 255)).map (edPoint y)

/-- The secret scalar and the prefix of a seed. -/
def edExpand (seed : List Byte) : Nat × List Byte :=
  let h := sha512 seed
  let n := leNat (h.take 32)
  (n % 2 ^ 254 / 8 * 8 + 2 ^ 254, h.drop 32)

def edPublic (seed : List Byte) : List Byte := (edBase.scale (edExpand seed).1).encode

def edSign (seed pub m : List Byte) : List Byte :=
  let k := edExpand seed
  let r := leNat (sha512 (k.2 ++ m)) % edL
  let rr := (edBase.scale r).encode
  let c := leNat (sha512 (rr ++ pub ++ m)) % edL
  rr ++ leBytes 32 ((r + c * k.1) % edL)

/-- Does `sig` verify for message `m` under public key `pub`? -/
def edVerify (pub m sig : List Byte) : Bool :=
  let s := leNat (sliceBytes sig 32 32)
  match edDecode pub, edDecode (sig.take 32) with
  | some a, some r =>
    let c := leNat (sha512 (sliceBytes sig 0 32 ++ pub ++ m)) % edL
    decide (s < edL) && ((edBase.scale s).scale 8).same ((r.scale 8).add ((a.scale c).scale 8))
  | _, _ => false

/-! ### The noise source (NIST SP 800-90B, as 08 R249 supports it) -/

/-- Repetition-count test: `cut` equal samples in a row; `last` has come `n` times. -/
def repeatsTo (cut : Nat) : Option Bool → Nat → List Bool → Bool
  | _, _, [] => false
  | last, n, x :: xs =>
    let m := if last = some x then n + 1 else 1
    decide (cut ≤ m) || repeatsTo cut (some x) m xs

-- PRESUMED (notes/assumptions/102.md)
/-- The cutoff of section 4.4.2 for 1,024 samples of 0.5 bits at α = 2⁻²⁰. -/
def proportionCut : Nat := 793

/-- Adaptive-proportion test over one window: its first sample comes too often. -/
def proportionFails : List Bool → Bool
  | [] => false
  | x :: xs => decide (proportionCut ≤ ((x :: xs).filter (· == x)).length)

def samples (s : BitVec 2048) : List Bool := (List.range 2048).map s.getLsbD

-- DESIGN CHOICE (notes/assumptions/107.md)
/-- Do the samples of one generation, the first in bit 0, pass the health tests? -/
def noiseHealthy (s : BitVec 2048) : Bool :=
  let l := samples s
  !repeatsTo 41 none 0 l && !proportionFails (l.take 1024) && !proportionFails (l.drop 1024)

-- DESIGN CHOICE (notes/assumptions/107.md)
/-- One 256-bit output: SHA-256 over 1,024 samples. -/
def conditioned (s : BitVec 2048) (j : Nat) : List Byte := sha256 (leBytes 128 (s.toNat / 2 ^ (1024 * j)))

end Sys2Proof.Machine
end

