-- ==== Sys2Proof/Machine/Operands.lean ====
section
/-! DEFINITION. The objects that operands name: the mesh, the attachments, the power domains, the register pages and the
address map (01 R13-R19; 03 R57; 12 R358; 18 R515, R517, R523, R524). -/
namespace Sys2Proof.Machine

/-! ### Mesh and attachments -/

def xOf (n : Nat) : Nat := n % 14
def yOf (n : Nat) : Nat := n / 14
def nodeAt (x y : Nat) : Nat := 14 * y + x

/-- Columns 6 and 7 (R13). -/
def isSpine (n : Nat) : Bool := xOf n == 6 || xOf n == 7

def isNode (n : Nat) : Bool := decide (n < 112)
def isNi (i : Nat) : Bool := decide (i < 216)
def isLoopNi (i : Nat) : Bool := decide (i < 192)
def isHostPort (i : Nat) : Bool := decide (200 ≤ i) && decide (i < 204)

/-- The node on mesh port `p` of `n`: 0 E, 1 N, 2 W, 3 S (R57). -/
def neighbour (n p : Nat) : Option Nat :=
  let x := xOf n
  let y := yOf n
  match p with
  | 0 => if x < 13 then some (nodeAt (x + 1) y) else none
  | 1 => if y < 7 then some (nodeAt x (y + 1)) else none
  | 2 => if 0 < x then some (nodeAt (x - 1) y) else none
  | 3 => if 0 < y then some (nodeAt x (y - 1)) else none
  | _ => none

/-- The port code at the far end of a mesh link. -/
def opposite (p : Nat) : Nat := (p + 2) % 4

/-- The node and local port of each attachment of NI `i` (R14, R15). -/
def attachments (i : Nat) : List (Nat × Nat) :=
  if i < 192 then
    let k := i / 2
    let x' := k % 12
    [(nodeAt (if x' ≤ 5 then x' else x' + 2) (k / 12), i % 2)]
  else if i < 200 then [(nodeAt 6 (i - 192), 0), (nodeAt 7 (i - 192), 0)]
  else if i < 204 then [(nodeAt 6 (2 * (i - 200)), 1), (nodeAt 7 (2 * (i - 200)), 1)]
  else match i with
    | 204 => [(nodeAt 6 1, 1), (nodeAt 7 1, 1)]
    | 205 => [(nodeAt 6 5, 1), (nodeAt 7 5, 1)]
    | 206 => [(nodeAt 6 4, 2), (nodeAt 7 3, 2)]
    | 207 => [(nodeAt 6 3, 2), (nodeAt 7 4, 2)]
    | 208 => [(nodeAt 6 7, 1), (nodeAt 7 7, 1)]
    | 209 => [(nodeAt 6 2, 2)]
    | 210 => [(nodeAt 7 6, 2)]
    | 211 => [(nodeAt 7 2, 2)]
    | 212 => [(nodeAt 6 6, 2)]
    | 213 => [(nodeAt 6 0, 2)]
    | 214 => [(nodeAt 6 5, 2)]
    | 215 => [(nodeAt 7 0, 2)]
    | _ => []

def dualHomed (i : Nat) : Bool := decide (1 < (attachments i).length)

/-- The node and local port of attachment `a` of NI `i`. -/
def place (i a : Nat) : Option (Nat × Nat) := (attachments i)[a]?

/-- The NI and attachment on local port `j` of node `n`; none where the port is absent or tied off (R15). -/
def localNi (n j : Nat) : Option (Nat × Nat) :=
  if isSpine n then
    ((List.range 24).flatMap (fun u => [(192 + u, 0), (192 + u, 1)])).find? (fun q => place q.1 q.2 == some (n, j))
  else if j < 2 then
    let x := xOf n
    some (2 * (12 * yOf n + (if x ≤ 5 then x else x - 2)) + j, 0)
  else none

/-- Port codes 0-3 are mesh ports, 4-6 local ports (R57). -/
def portExists (n p : Nat) : Bool :=
  isNode n && (if p < 4 then (neighbour n p).isSome else if p < 7 then (localNi n (p - 4)).isSome else false)

/-- The column half that R16 assigns to a node: attachment 0 (column 6) or 1 (column 7). -/
def homeColumn (n : Nat) : Nat := if xOf n ≤ 6 then 0 else 1

/-! ### Power domains: LDi is i, FDk is 16 + k, SD is 24, AO is 25 (R19, R358) -/

def domSD : Nat := 24
def domAO : Nat := 25

def domOfNode (n : Nat) : Nat :=
  let x := xOf n
  if isSpine n then domSD
  else if x ≤ 5 then yOf n / 2 * 2 + x / 3 else 8 + yOf n / 2 * 2 + (x - 8) / 3

def domOfNi (i : Nat) : Nat :=
  if i < 192 then (match place i 0 with | some (n, _) => domOfNode n | none => domSD)
  else if i < 200 then 16 + (i - 192)
  else if [205, 207, 208, 210, 212, 214].contains i then domAO else domSD

def nodesOfDom (d : Nat) : List Nat := having 112 (fun n => domOfNode n == d)
def nisOfDom (d : Nat) : List Nat := having 216 (fun i => domOfNi i == d)

/-! ### Register pages (R517, R523, R524) -/

inductive Kind where
  | node | niLoop | niSys | fs | csq | tu | fc | evl | mm | cp | pr | pm | gt | lg | stw | top | cntNode | cntNi
deriving DecidableEq, Repr

def pgNode (n : Nat) : Nat := n
def pgNi (i : Nat) : Nat := 0x100 + i
def pgFs (k : Nat) : Nat := 0x200 + k
def pgSTW : Nat := 0x300
def pgCSQ : Nat := 0x301
def pgTU : Nat := 0x302
def pgFC : Nat := 0x303
def pgEVL : Nat := 0x304
def pgMM : Nat := 0x305
def pgCP : Nat := 0x306
def pgPR : Nat := 0x307
def pgPM : Nat := 0x308
def pgGT : Nat := 0x309
def pgLG : Nat := 0x30A
def pgTOP : Nat := 0x3FF
def pgCntNode (n : Nat) : Nat := 0x400 + n
def pgCntNi (i : Nat) : Nat := 0x500 + i

def kindOf (p : Nat) : Option Kind :=
  if p < 112 then some .node
  else if 0x100 ≤ p ∧ p < 0x1C0 then some .niLoop
  else if 0x1C0 ≤ p ∧ p < 0x1D8 then some .niSys
  else if 0x200 ≤ p ∧ p < 0x208 then some .fs
  else if 0x400 ≤ p ∧ p < 0x470 then some .cntNode
  else if 0x500 ≤ p ∧ p < 0x5D8 then some .cntNi
  else match p with
    | 0x300 => some .stw | 0x301 => some .csq | 0x302 => some .tu | 0x303 => some .fc | 0x304 => some .evl
    | 0x305 => some .mm | 0x306 => some .cp | 0x307 => some .pr | 0x308 => some .pm | 0x309 => some .gt
    | 0x30A => some .lg | 0x3FF => some .top
    | _ => none

/-- Codes of R524. -/
def blockType : Kind → Nat
  | .node => 0x01 | .niLoop => 0x02 | .niSys => 0x03 | .fs => 0x04 | .csq => 0x05 | .tu => 0x06 | .fc => 0x07
  | .evl => 0x08 | .mm => 0x09 | .cp => 0x0A | .pr => 0x0B | .pm => 0x0C | .gt => 0x0D | .lg => 0x0E | .stw => 0x0F
  | .top => 0x10 | .cntNode => 0x11 | .cntNi => 0x11

/-- The node, NI or bank number of a page; 0 for single blocks. -/
def instanceOf (p : Nat) : Nat :=
  match kindOf p with
  | some .node => p
  | some .niLoop | some .niSys => p - 0x100
  | some .fs => p - 0x200
  | some .cntNode => p - 0x400
  | some .cntNi => p - 0x500
  | _ => 0

/-- The NI that serves a page (R517). -/
def servingNi (p : Nat) : Nat :=
  match kindOf p with
  | some .node | some .cntNode =>
    let n := instanceOf p
    if isSpine n then 204 else (match localNi n 0 with | some (i, _) => i | none => 204)
  | some .niLoop => instanceOf p
  | some .niSys | some .cntNi => if instanceOf p = 215 then 204 else instanceOf p
  | some .fs => 192 + instanceOf p
  | some .stw => 204 | some .csq => 206 | some .tu => 207 | some .fc => 208 | some .evl => 205 | some .mm => 209
  | some .cp => 210 | some .pr => 211 | some .pm => 212 | some .gt => 213 | some .lg => 214 | some .top => 214
  | none => 0

/-- The power domain of a page's block (R517). -/
def domOfPage (p : Nat) : Nat :=
  match kindOf p with
  | some .node | some .cntNode => domOfNode (instanceOf p)
  | some .niLoop | some .niSys | some .cntNi => domOfNi (instanceOf p)
  | some .fs => 16 + instanceOf p
  | some .tu | some .fc | some .evl | some .cp | some .pm | some .lg | some .top => domAO
  | _ => domSD

/-- Pages that the service port reaches (09 R291). -/
def servicePage (p : Nat) : Bool := [pgTU, pgFC, pgEVL, pgCP, pgPM, pgLG, pgTOP].contains p

-- DEDUCED (notes/assumptions/10.md)
/-- The first event source of a page's block, and how many it has (R358). A counter page has none (notes/assumptions/10.md). -/
def sourcesOf (p : Nat) : Nat × Nat :=
  match kindOf p with
  | some .node => (4 * p, 4)
  | some .niLoop | some .niSys => (448 + 2 * (p - 0x100), 2)
  | some .fs => (880 + 8 * (p - 0x200), 8)
  | some .csq => (944, 8) | some .tu => (952, 4) | some .evl => (956, 4) | some .mm => (960, 8) | some .pm => (968, 26)
  | some .stw => (994, 4) | some .gt => (998, 2) | some .lg => (1000, 2) | some .cp => (1002, 2) | some .pr => (1004, 1)
  | some .top => (1005, 1) | some .fc => (1006, 2)
  | _ => (0, 0)

/-- The page whose block raises source `s` (R358). -/
def pageOfSource (s : Nat) : Nat :=
  if s < 448 then s / 4
  else if s < 880 then 0x100 + (s - 448) / 2
  else if s < 944 then 0x200 + (s - 880) / 8
  else if s < 952 then pgCSQ else if s < 956 then pgTU else if s < 960 then pgEVL else if s < 968 then pgMM
  else if s < 994 then pgPM else if s < 998 then pgSTW else if s < 1000 then pgGT else if s < 1002 then pgLG
  else if s < 1004 then pgCP else if s < 1005 then pgPR else if s < 1006 then pgTOP else pgFC

/-- Event sources by origin (R358). -/
def srcNode (n k : Nat) : Nat := 4 * n + k
def srcNi (i k : Nat) : Nat := 448 + 2 * i + k
def srcFs (b k : Nat) : Nat := 880 + 8 * b + k
def srcCSQ (k : Nat) : Nat := 944 + k
-- DEDUCED (notes/assumptions/15.md)
def srcTU (k : Nat) : Nat := 952 + k
-- DEDUCED (notes/assumptions/15.md)
def srcEVL (k : Nat) : Nat := 956 + k
def srcMM (k : Nat) : Nat := 960 + k
def srcPM (d : Nat) : Nat := 968 + d
def srcSTW (k : Nat) : Nat := 994 + k
def srcGT (k : Nat) : Nat := 998 + k
def srcLG (k : Nat) : Nat := 1000 + k
def srcCP (k : Nat) : Nat := 1002 + k
def srcPR : Nat := 1004
def srcTOP : Nat := 1005
def srcFC (k : Nat) : Nat := 1006 + k

/-- Event classes (R363). -/
def clLINK : Nat := 0
def clNODE : Nat := 1
def clNI : Nat := 2
def clENDPOINT : Nat := 3
def clMEMCE : Nat := 4
def clMEMUE : Nat := 5
def clGATE : Nat := 6
def clCOMMIT : Nat := 7
def clTIME : Nat := 8
def clPOWER : Nat := 9
def clSELFTEST : Nat := 10
def clMARGIN : Nat := 11
def clLEDGER : Nat := 12
def clCART : Nat := 13
def clSEC : Nat := 14
def clCOLLECTOR : Nat := 15

/-! ### Address map (R515) -/

/-- The parts of the 48-bit address space. -/
inductive Area where
  | zero (off : Nat)
  | bank (k off : Nat)
  | evlog (off : Nat)
  | ledger (off : Nat)
  | retention (off : Nat)
  | page (p off : Nat)
  | window (ni off : Nat)
  | unmapped
deriving DecidableEq, Repr

def area (a : Nat) : Area :=
  if a < 0x80000 then .zero a
  else if 0x40000000 ≤ a ∧ a < 0x44000000 then .bank ((a - 0x40000000) / 0x800000) ((a - 0x40000000) % 0x800000)
  else if 0x50000000 ≤ a ∧ a < 0x50800000 then .evlog (a - 0x50000000)
  else if 0x60000000 ≤ a ∧ a < 0x60400000 then .ledger (a - 0x60000000)
  else if 0x60400000 ≤ a ∧ a < 0x60440000 then .retention (a - 0x60400000)
  else if 0x80000000 ≤ a ∧ a < 0x81000000 then
    (match kindOf ((a - 0x80000000) / 0x1000) with
     | some _ => .page ((a - 0x80000000) / 0x1000) ((a - 0x80000000) % 0x1000)
     | none => .unmapped)
  else if 0x100000000 ≤ a ∧ a < 0xC100000000 then .window (a / 0x100000000 - 1) (a % 0x100000000)
  else if 0xC900000000 ≤ a ∧ a < 0xCD00000000 then .window (a / 0x100000000 - 1) (a % 0x100000000)
  else .unmapped

/-- The DST that the source NI derives from an address (R36, R515). -/
def dstOf (a : Nat) : Option Nat :=
  match area a with
  | .zero _ => some 204
  | .bank k _ => some (192 + k)
  | .evlog _ => some 205
  | .ledger _ => some 214
  | .retention _ => some 212
  | .page p _ => some (servingNi p)
  | .window i _ => some i
  | .unmapped => none

def pageAddr (p off : Nat) : Nat := 0x80000000 + 0x1000 * p + off
def bankAddr (k off : Nat) : Nat := 0x40000000 + 0x800000 * k + off
def evlAddr : Nat := 0x50000000
def ledgerAddr : Nat := 0x60000000
def retentionAddr : Nat := 0x60400000

/-! ### Operands of more than one number -/

/-- Does the end of a link exist (R15, R57)? -/
def portOk : Port → Bool
  | .node n p => portExists n p
  | .ni i a => (place i a).isSome

/-- Has the node path `k`: 0-6 an output port it has, 7 its pipeline? -/
def hasPath (n k : Nat) : Bool := k == 7 || portExists n k

/-- Does the spec list the page (R517)? -/
def isPage (p : Nat) : Bool := (kindOf p).isSome

/-- Eight banks and five crossbar targets have a port (04 R107, R109). -/
def memPortOk : MemPort → Bool
  | .bank k => decide (k < 8)
  | .xbar t => decide (t < 5)

/-- Does the bit exist? -/
def upsetOk : Upset → Bool
  | .entry n e i k => isNode n && decide (e < 2) && decide (i < 217) && decide (k < 9)
  | .esc n e k => isNode n && decide (e < 2) && decide (k < 33)
  | .flit n q v _ k => portExists n q && decide (v < 9) && decide (k < 145)

/-- Who may ask at a port from inside: at the crossbar its masters but NI 204 (04 R109). -/
def asksOk (m : MemPort) (asks : List Nat) : Bool :=
  match m with
  | .bank _ => asks == []
  | .xbar _ => asks.all (fun x => x == 0 || x == 1 || x == 2 || x == 4)

/-- A service-port frame holds a 48-bit address and an 8-bit LEN (09 R293). -/
def cutOk : Cut → Bool
  | .beforeCommand => true
  | .read addr len _ _ => decide (addr < 2 ^ 48) && decide (len < 256)
  | .write addr len _ => decide (addr < 2 ^ 48) && decide (len < 256)

end Sys2Proof.Machine
end

