-- ==== Sys2Proof/Machine/Regs.lean ====
section
/-! DEFINITION. The register words: the fields, access codes and reset values of every register page (18 R523 and the
register tables of 03, 04, 05-17), and the register file that holds them. -/
namespace Sys2Proof.Machine

/-- Access codes (R9). `sos` is a steward-only field with a shadow copy (NODE_LANE_MAP, 03 R90). -/
inductive Acc where
  | ro | rw | rws | w1c | w1s | wo | so | sos
deriving DecidableEq, Repr

/-- A field of a register word: bits [lo + w - 1 : lo]. -/
structure FieldD where
  lo : Nat
  w : Nat
  acc : Acc
  reset : Nat := 0

/-- `count` words at `off`, `off + stride`, ... with the same fields. -/
structure RegD where
  off : Nat
  fields : List FieldD
  count : Nat := 1
  stride : Nat := 4

def fd (lo w : Nat) (acc : Acc) (reset : Nat := 0) : FieldD := { lo, w, acc, reset }
def ro32 : List FieldD := [fd 0 32 .ro]
def rw32 : List FieldD := [fd 0 32 .rw]

/-- The common page header (R523). -/
def headerRegs (p : Nat) : List RegD :=
  let k := kindOf p
  let bt := match k with | some k => blockType k | none => 0
  let shadow := match k with | some .node => 1 | some .gt => 1 | _ => 0
  let counters := match k with | some .cntNode => 1 | some .cntNi => 1 | _ => 0
  let d := domOfPage p
  let s := servingNi p
  [ { off := 0x000, fields := [fd 0 8 .ro 0x01, fd 8 4 .ro 1, fd 12 12 .ro (instanceOf p), fd 24 8 .ro bt] },
    { off := 0x004, fields := [fd 0 1 .ro shadow, fd 1 1 .ro (b2n (d == domAO)), fd 2 1 .ro (b2n (servicePage p)),
        fd 3 1 .ro counters, fd 4 1 .ro (b2n (dualHomed s))] },
    { off := 0x008, fields := [fd 0 1 .w1s, fd 1 1 .w1c] },
    { off := 0x00C, fields := [fd 0 6 .ro] },
    { off := 0x010, fields := ro32 },
    { off := 0x014, fields := [fd 0 (sourcesOf p).2 .rw] },
    { off := 0x018, fields := [fd 0 (sourcesOf p).2 .w1c] },
    { off := 0x01C, fields := [fd 0 10 .ro (sourcesOf p).1, fd 10 6 .ro (sourcesOf p).2] },
    { off := 0x020, fields := [fd 0 1 .w1s, fd 16 16 .ro] },
    { off := 0x024, fields := [fd 0 1 .w1s] },
    { off := 0x028, fields := [fd 0 5 .ro d, fd 8 9 .ro s] },
    { off := 0x02C, fields := rw32 } ]

/-- Bits of a spine node's or loop node's local ports that exist (R15). -/
def localMask (n : Nat) : Nat := maskOf 3 (fun j => (localNi n j).isSome)
def meshMask (n : Nat) : Nat := maskOf 4 (fun p => (neighbour n p).isSome)

def arbRanks (reset : Nat) : List FieldD :=
  [fd 0 2 .rws (bitsOf reset 0 2), fd 2 2 .rws (bitsOf reset 2 2), fd 4 2 .rws (bitsOf reset 4 2), fd 6 2 .rws (bitsOf reset 6 2),
   fd 8 1 .ro]

def slotWord : List FieldD := (List.range 16).map (fun j => fd (2 * j) 2 .rws)

/-- Four route-table bytes (03 R89). -/
def rtWord : List FieldD := (List.range 4).flatMap (fun i => [fd (8 * i) 3 .so 7, fd (8 * i + 4) 3 .so 7])

def marginFields : List FieldD := [fd 0 6 .so, fd 8 6 .ro, fd 14 1 .ro, fd 15 1 .ro, fd 16 12 .ro]

/-- Node page (03 R84-R90; 04 R100, R102; 14 R445, R446). -/
def nodeRegs (n : Nat) : List RegD :=
  [ { off := 0x040, fields := [fd 0 1 .ro, fd 2 2 .so, fd 4 2 .ro, fd 8 8 .rw 0x08, fd 16 1 .w1c, fd 17 1 .w1c, fd 18 1 .w1c] },
    { off := 0x044, count := 2, fields := [fd 0 4 .so, fd 4 3 .so 7, fd 8 8 .so] },
    { off := 0x04C, fields := [fd 0 4 .ro (meshMask n), fd 4 4 .so, fd 8 4 .w1c] ++
        ((List.range 3).filter (fun j => (localNi n j).isSome)).map (fun j => fd (12 + j) 1 .so) },
    { off := 0x050, fields := [fd 0 1 .ro 1, fd 1 1 .ro 1, fd 8 1 .so, fd 9 1 .so] },
    { off := 0x054, fields := [fd 0 16 .ro, fd 16 16 .ro] },
    { off := 0x060, fields := arbRanks 0xB1 ++ [fd 16 8 .rws 0x10, fd 24 1 .ro, fd 25 1 .w1c, fd 26 6 .ro] },
    { off := 0x064, fields := arbRanks 0xB4 },
    { off := 0x068, fields := arbRanks 0xC9 },
    { off := 0x06C, fields := arbRanks 0x93 } ] ++
  ((List.range 7).filter (portExists n)).map (fun o => { off := 0x080 + 0x10 * o, count := 4, fields := slotWord }) ++
  [ { off := 0x100, count := 8, fields := (List.range 4).map (fun i => fd (8 * i) 8 .sos 0xFF) },
    { off := 0x140, count := 7, fields := marginFields },
    { off := 0x160, fields := marginFields },
    { off := 0x164, fields := [fd 0 6 .so 0x04, fd 8 6 .so 0x30, fd 16 8 .rw 0x08] },
    { off := 0x170, count := 4, fields := [fd 0 8 .ro 0xFF, fd 8 8 .ro] },
    { off := 0x400, count := 54, fields := rtWord },
    { off := 0x4D8, fields := [fd 0 3 .so 7, fd 4 3 .so 7] },
    { off := 0x500, count := 54, fields := rtWord },
    { off := 0x5D8, fields := [fd 0 3 .so 7, fd 4 3 .so 7] } ]

/-- Response space in flits and tags of an NI (09 R269). -/
def rspSpace (i : Nat) : Nat := if i < 192 then 72 else if isHostPort i then 1152 else 144
def tagCount (i : Nat) : Nat := if i < 192 then 64 else if isHostPort i then 512 else 128

def rgnRegs (base : Nat) : List RegD :=
  [ { off := base, count := 16, stride := 16, fields := rw32 },
    { off := base + 4, count := 16, stride := 16, fields := [fd 0 5 .rw, fd 8 21 .rw] },
    { off := base + 8, count := 16, stride := 16, fields := [fd 0 16 .rw, fd 16 16 .rw] },
    { off := base + 12, count := 16, stride := 16, fields := [fd 0 1 .rw, fd 1 1 .rw, fd 2 1 .rw, fd 8 8 .rw] } ]

def reachWord (a : Acc) : List FieldD := (List.range 16).map (fun k => fd (2 * k) 2 a 1)
def reachLast (a : Acc) : List FieldD := (List.range 8).map (fun k => fd (2 * k) 2 a 1)

/-- NI page (09 R296-R302; 03 R91; 10 R324; 15 R464; 17 R514). -/
def niRegs (i : Nat) : List RegD :=
  [ { off := 0x040, fields := [fd 0 9 .ro i, fd 9 2 .ro (if i < 192 then 0 else if isHostPort i then 2 else 1),
        fd 11 1 .ro (b2n (dualHomed i)), fd 12 1 .ro, fd 13 1 .ro] },
    { off := 0x044, fields := [fd 0 11 .ro (rspSpace i), fd 11 11 .ro (rspSpace i)] },
    { off := 0x048, fields := [fd 0 10 .ro (tagCount i), fd 10 10 .ro (tagCount i), fd 20 10 .ro] },
    { off := 0x04C, fields := [fd 0 8 .rw 0x08] },
    { off := 0x050, fields := [fd 0 1 .ro, fd 1 1 .w1s, fd 2 3 .ro, fd 16 16 .ro] },
    { off := 0x060, fields := [fd 0 1 .rw, fd 1 1 .rw, fd 2 3 .rw, fd 5 1 .rw, fd 6 2 .rw, fd 8 1 .w1s] },
    { off := 0x064, fields := [fd 0 16 .rw] },
    { off := 0x068, fields := [fd 0 8 .ro, fd 8 9 .ro] },
    { off := 0x100, count := 13, fields := reachWord .ro },
    { off := 0x134, fields := reachLast .ro },
    { off := 0x140, count := 13, fields := reachWord .so },
    { off := 0x174, fields := reachLast .so } ] ++
  rgnRegs 0x200 ++ rgnRegs 0x300 ++
  (if isLoopNi i then
    [ { off := 0x054, count := 2, fields := [fd 0 2 .ro, fd 2 2 .ro, fd 4 11 .ro, fd 15 1 .w1c, fd 16 16 .ro] },
      { off := 0x05C, fields := [fd 0 1 .ro, fd 1 1 .ro, fd 2 1 .ro, fd 3 1 .w1c, fd 16 16 .ro] },
      { off := 0x400, count := 64, stride := 8, fields := ro32 },
      { off := 0x404, count := 64, stride := 8, fields := [fd 0 8 .ro] } ]
   else []) ++
  (if isHostPort i then
    [ { off := 0x080, fields := [fd 0 4 .w1c, fd 4 4 .rw, fd 8 4 .rw] },
      { off := 0x088, count := 4, fields := [fd 2 30 .rw] },
      { off := 0x098, count := 4, fields := rw32 } ]
   else [])

/-- FS page (07 R230-R233). -/
def fsRegs : List RegD :=
  [ { off := 0x040, fields := [fd 0 1 .ro, fd 1 4 .ro] },
    { off := 0x044, fields := [fd 0 2 .wo, fd 16 10 .wo] },
    { off := 0x048, fields := [fd 0 13 .rw, fd 16 13 .rw] },
    { off := 0x04C, fields := [fd 0 8 .rw, fd 8 16 .rw, fd 24 8 .rw] },
    { off := 0x050, fields := [fd 0 1 .ro 1, fd 1 1 .w1c, fd 8 4 .ro, fd 16 10 .ro] },
    { off := 0x054, fields := [fd 0 4 .rw 0xC, fd 4 4 .rw] },
    { off := 0x058, fields := [fd 0 13 .ro 0x1F70, fd 16 11 .ro] },
    { off := 0x05C, fields := [fd 0 10 .ro, fd 10 2 .ro, fd 16 16 .ro] },
    { off := 0x060, count := 4, fields := [fd 0 10 .ro, fd 10 1 .ro, fd 16 16 .ro] },
    { off := 0x070, fields := [fd 0 16 .ro, fd 16 16 .ro] } ]

/-- One commit slot's block (06 R207-R211). -/
def slotRegs (k : Nat) : List RegD :=
  let b := 0x100 + 0x80 * k
  [ { off := b, fields := [fd 0 2 .wo, fd 2 1 .rw, fd 3 1 .rw, fd 4 1 .rw, fd 8 3 .ro, fd 11 1 .w1c, fd 12 4 .ro, fd 16 16 .ro] },
    { off := b + 0x04, fields := [fd 0 10 .rw, fd 10 2 .rw, fd 16 11 .rw 0x400] },
    { off := b + 0x08, count := 2, fields := rw32 },
    { off := b + 0x10, count := 6, fields := rw32 },
    { off := b + 0x28, fields := [fd 0 24 .rw] },
    { off := b + 0x30, fields := [fd 0 4 .ro, fd 4 4 .ro, fd 8 1 .ro, fd 9 3 .ro, fd 16 16 .ro] },
    { off := b + 0x34, fields := ro32 },
    { off := b + 0x38, fields := [fd 0 9 .ro, fd 9 1 .ro, fd 12 4 .ro] },
    { off := b + 0x3C, count := 5, fields := ro32 },
    { off := b + 0x50, count := 6, fields := ro32 },
    { off := b + 0x68, fields := [fd 0 24 .ro] },
    { off := b + 0x6C, fields := [fd 0 10 .ro, fd 16 8 .ro] } ]

/-- CSQ page (06 R201-R211). -/
def csqRegs : List RegD :=
  [ { off := 0x040, fields := [fd 0 4 .ro, fd 4 1 .ro, fd 5 1 .ro, fd 8 4 .ro, fd 16 16 .ro] },
    { off := 0x044, fields := [fd 0 10 .rw 0x0FA] },
    { off := 0x048, fields := [fd 0 8 .rw 0x28] },
    { off := 0x04C, fields := [fd 0 2 .rw, fd 2 1 .rw, fd 3 2 .rw, fd 5 1 .rw, fd 8 10 .rw 0x00A, fd 18 10 .rw 0x00A] },
    { off := 0x050, fields := [fd 0 8 .ro 0xFF, fd 8 8 .ro 0xFF, fd 16 8 .ro 0x28, fd 24 1 .ro, fd 25 1 .ro, fd 26 1 .w1s] },
    { off := 0x054, fields := [fd 0 12 .so 0x2CA, fd 16 9 .so 0x100] },
    { off := 0x058, fields := [fd 0 10 .so 0x05A, fd 16 10 .so 0x08E] },
    { off := 0x05C, fields := [fd 0 8 .so 0x26, fd 8 8 .rw 0x10] } ] ++
  slotRegs 0 ++ slotRegs 1 ++ slotRegs 2 ++ slotRegs 3

/-- TU page (05 R150-R162). -/
def tuRegs : List RegD :=
  [ { off := 0x040, fields := [fd 0 8 .ro, fd 8 3 .ro] },
    { off := 0x044, count := 2, fields := ro32 },
    { off := 0x050, fields := [fd 0 3 .ro, fd 3 1 .ro, fd 4 1 .ro, fd 5 1 .ro, fd 6 1 .ro, fd 7 1 .ro 1, fd 8 1 .w1c, fd 9 1 .w1c,
        fd 10 1 .w1c, fd 11 1 .w1c, fd 12 1 .w1c, fd 24 8 .ro] },
    { off := 0x054, fields := rw32 },
    { off := 0x058, fields := [fd 0 2 .rw, fd 8 1 .rw] },
    { off := 0x05C, fields := [fd 0 20 .rw] },
    { off := 0x060, fields := [fd 0 1 .rw, fd 1 1 .rw 1, fd 8 8 .rw 0x64, fd 16 12 .rw] },
    { off := 0x064, fields := [fd 0 8 .wo, fd 16 16 .wo] },
    { off := 0x068, fields := [fd 0 7 .rw 0x64] },
    { off := 0x06C, fields := [fd 0 8 .ro] },
    { off := 0x070, count := 3, fields := ro32 },
    { off := 0x07C, fields := [fd 0 1 .w1s, fd 1 1 .rw, fd 8 8 .ro, fd 16 8 .ro, fd 24 8 .ro] },
    { off := 0x080, fields := [fd 0 16 .ro, fd 16 16 .ro] },
    { off := 0x084, fields := [fd 0 8 .ro] },
    { off := 0x088, count := 2, fields := ro32 },
    { off := 0x200, count := 112, fields := [fd 0 2 .ro 3, fd 2 1 .ro, fd 4 16 .ro, fd 20 8 .ro] } ]

/-- FC page (12 R383-R388). -/
def fcRegs : List RegD :=
  let cfg (floor cap : FieldD) : List FieldD :=
    [fd 0 20 .rw 0x3E8, floor, fd 22 2 .rw, fd 24 2 .rw, fd 26 1 .rw 1, fd 27 1 .rw 1, cap]
  [ { off := 0x040, fields := [fd 0 1 .ro, fd 1 1 .ro, fd 2 1 .ro, fd 8 8 .ro, fd 16 1 .w1c, fd 17 1 .w1c] },
    { off := 0x044, fields := [fd 0 16 .w1c] },
    { off := 0x048, fields := [fd 0 16 .w1s] },
    { off := 0x04C, fields := ro32 },
    { off := 0x050, fields := [fd 0 8 .wo, fd 16 16 .wo] },
    { off := 0x054, fields := [fd 0 10 .ro, fd 10 2 .ro, fd 12 4 .ro, fd 16 1 .ro] },
    { off := 0x058, count := 2, fields := ro32 },
    { off := 0x060, fields := [fd 0 5 .ro, fd 16 16 .ro] },
    { off := 0x080, count := 15, fields := cfg (fd 20 2 .rw) (fd 28 1 .rw 1) },
    { off := 0x0BC, fields := cfg (fd 20 2 .ro 3) (fd 28 1 .ro 1) },
    { off := 0x0C0, count := 8, fields := ro32 },
    { off := 0x100, count := 32, fields := ro32 },
    { off := 0x200, count := 32, stride := 16, fields := [fd 0 10 .ro, fd 10 2 .ro, fd 12 4 .ro, fd 16 8 .ro, fd 24 1 .ro] },
    { off := 0x204, count := 32, stride := 16, fields := [fd 0 16 .ro] },
    { off := 0x208, count := 32, stride := 16, fields := ro32 },
    { off := 0x20C, count := 32, stride := 16, fields := ro32 } ]

/-- EVL page (08 R260-R266). -/
def evlRegs : List RegD :=
  [ { off := 0x040, fields := [fd 0 2 .ro, fd 2 1 .ro 1, fd 3 1 .ro, fd 4 1 .ro, fd 5 1 .ro, fd 8 4 .ro, fd 16 1 .w1c, fd 17 1 .w1c,
        fd 18 1 .w1c] },
    { off := 0x044, fields := [fd 0 1 .rw 1, fd 1 1 .rw, fd 2 1 .w1s, fd 8 4 .rw 0xC] },
    { off := 0x048, fields := ro32 },
    { off := 0x04C, fields := rw32 },
    { off := 0x050, fields := [fd 0 1 .rw, fd 4 4 .rw 0x4, fd 8 5 .rw 0x0A] },
    { off := 0x054, fields := ro32 },
    { off := 0x058, fields := rw32 },
    { off := 0x05C, fields := [fd 0 16 .rw] },
    { off := 0x060, count := 2, fields := ro32 },
    { off := 0x068, fields := [fd 0 6 .ro, fd 6 1 .ro, fd 7 1 .w1s, fd 16 16 .ro] },
    { off := 0x06C, fields := ro32 },
    { off := 0x080, count := 8, fields := ro32 },
    { off := 0x0A0, count := 32, fields := rw32 },
    { off := 0x120, count := 8, fields := ro32 } ]

/-- The reset code of a code region (11 R329): 0 DEC-TED, 2 PARITY. -/
def defaultCode (r : Nat) : Nat := if r = 12 ∨ 14 ≤ r then 2 else 0
def fixedCode (r : Nat) : Bool := [8, 9, 10, 13].contains r

/-- MM page (11 R353-R357). -/
def mmRegs : List RegD :=
  [ { off := 0x040, fields := [fd 0 7 .ro, fd 8 6 .ro, fd 14 1 .ro, fd 15 1 .w1c, fd 16 16 .ro] },
    { off := 0x044, fields := [fd 0 5 .rw, fd 8 1 .w1s, fd 9 1 .ro, fd 10 1 .w1c] },
    { off := 0x048, fields := [fd 0 8 .rw 0xFF, fd 8 8 .rw 0xFF, fd 16 8 .rw 0xFF, fd 24 5 .rw, fd 29 1 .rw, fd 30 1 .w1c] },
    { off := 0x04C, fields := ro32 },
    { off := 0x050, fields := [fd 0 16 .ro] },
    { off := 0x054, fields := [fd 0 4 .rw 4, fd 4 1 .w1s] },
    { off := 0x058, fields := ro32 } ] ++
  (List.range 31).map (fun r =>
    { off := 0x080 + 4 * r, fields := [fd 0 2 (if fixedCode r then .ro else .rw) (defaultCode r), fd 2 2 .ro (defaultCode r),
        fd 4 1 .ro (b2n (fixedCode r))] }) ++
  [ { off := 0x100, count := 12, fields := [fd 0 20 .rw 0x10] },
    { off := 0x140, count := 12, fields := [fd 0 19 .ro, fd 19 13 .ro] },
    { off := 0x180, count := 12, fields := [fd 0 20 .ro] },
    { off := 0x200, count := 64, stride := 8, fields := ro32 },
    { off := 0x204, count := 64, stride := 8, fields := [fd 0 21 .ro, fd 31 1 .ro] },
    { off := 0x400, count := 32, stride := 8, fields := ro32 },
    { off := 0x404, count := 32, stride := 8, fields := [fd 0 21 .ro, fd 24 4 .ro, fd 31 1 .ro] } ]

/-- CP page (17 R513). -/
def cpRegs : List RegD :=
  [ { off := 0x040, fields := [fd 0 2 .ro, fd 2 2 .ro, fd 4 1 .ro, fd 5 1 .ro, fd 6 1 .w1c, fd 8 3 .ro, fd 16 8 .ro] },
    { off := 0x044, fields := [fd 0 1 .w1s, fd 1 1 .w1s] },
    { off := 0x048, count := 4, fields := ro32 },
    { off := 0x058, fields := [fd 0 14 .ro, fd 16 11 .ro, fd 27 1 .ro, fd 28 1 .ro, fd 29 1 .ro] },
    { off := 0x060, count := 8, fields := rw32 } ]

/-- PR page (15 R466, R467). -/
def prRegs : List RegD :=
  [ { off := 0x040, fields := [fd 0 1 .ro, fd 1 1 .ro, fd 2 1 .w1c, fd 8 24 .ro] },
    { off := 0x044, fields := [fd 0 1 .rw, fd 1 1 .rw 1, fd 2 1 .rw 1, fd 3 1 .w1s, fd 4 4 .rw 2, fd 8 3 .rw] },
    { off := 0x048, fields := [fd 18 14 .rw] },
    { off := 0x04C, fields := [fd 0 16 .rw] },
    { off := 0x050, fields := [fd 0 22 .rw] },
    { off := 0x054, fields := ro32 },
    { off := 0x080, count := 3, fields := rw32 },
    { off := 0x08C, fields := [fd 0 16 .rw] },
    { off := 0x090, count := 6, fields := rw32 } ]

/-- The reset value of PM_WAKE_SET[k] for source code k + 2 (13 R415). -/
def wakeSetReset (k : Nat) : Nat := if k = 5 then 0x00FFFFFF else if k = 6 then 0x01000000 else 0

/-- PM page (13 R414-R420). -/
def pmRegs : List RegD :=
  [ { off := 0x040, fields := [fd 0 3 .ro, fd 3 1 .ro, fd 4 4 .ro, fd 8 1 .w1c, fd 9 1 .w1c, fd 16 16 .ro] },
    { off := 0x044, fields := [fd 0 26 .rw, fd 26 2 .rw, fd 28 1 .rw, fd 29 1 .w1s] },
    { off := 0x048, fields := [fd 0 16 .w1s, fd 24 1 .w1s] },
    { off := 0x04C, fields := [fd 2 9 .rw 0x060] },
    { off := 0x050, fields := [fd 0 4 .ro, fd 8 5 .ro, fd 16 4 .ro, fd 20 2 .ro] },
    { off := 0x054, count := 2, fields := ro32 },
    { off := 0x060, fields := rw32 },
    { off := 0x064, fields := [fd 0 31 .rw, fd 31 1 .rw] },
    { off := 0x070, fields := [fd 0 8 .rw 0x96, fd 8 8 .rw 0x96, fd 16 8 .rw 0x96, fd 24 8 .rw 0x96] },
    { off := 0x074, fields := [fd 0 8 .so 0x88, fd 8 8 .so 0x88, fd 16 8 .so 0x88, fd 24 8 .so 0x88] },
    { off := 0x080, count := 4, fields := [fd 0 8 .ro 0x96, fd 8 2 .ro, fd 10 1 .ro, fd 11 1 .w1c, fd 12 1 .ro, fd 16 16 .ro] },
    { off := 0x090, count := 4, fields := [fd 0 7 .rw, fd 7 1 .rw 1, fd 8 8 .rw, fd 16 5 .ro, fd 21 1 .rw] } ] ++
  (List.range 9).map (fun k => { off := 0x0A0 + 4 * k, fields := [fd 0 25 .rw (wakeSetReset k), fd 25 1 .ro] }) ++
  [ { off := 0x100, count := 26, fields := [fd 0 2 .ro, fd 2 4 .ro, fd 6 1 .ro, fd 7 1 .ro, fd 8 1 .ro, fd 12 4 .ro, fd 16 2 .ro] } ]

/-- The reset group of SRC s (10 R328). -/
def mapReset (s : Nat) : Nat :=
  if s < 192 then 2 else if s < 200 then 3 else if s < 204 then 0 else if s = 204 then 14 else if s < 215 then 1 else 0

/-- GT page (10 R326-R328). -/
def gtRegs : List RegD :=
  [ { off := 0x040, fields := [fd 0 1 .ro, fd 1 1 .ro, fd 8 1 .w1c, fd 9 1 .w1c] },
    { off := 0x044, fields := [fd 0 1 .w1s, fd 1 1 .w1s] },
    { off := 0x048, count := 2, fields := rw32 },
    { off := 0x050, fields := [fd 0 7 .rw, fd 7 3 .rw, fd 10 1 .rw, fd 16 1 .w1s, fd 17 1 .w1s, fd 18 1 .ro, fd 19 1 .w1c] },
    { off := 0x054, fields := rw32 },
    { off := 0x058, fields := [fd 0 4 .rw, fd 8 6 .rw, fd 14 1 .rw] },
    { off := 0x05C, fields := [fd 0 16 .rw, fd 16 16 .rw] },
    { off := 0x060, count := 6, fields := ro32 },
    { off := 0x078, fields := [fd 0 24 .ro] } ] ++
  (List.range 27).map (fun j =>
    { off := 0x080 + 4 * j,
      fields := ((List.range 8).filter (fun k => 8 * j + k < 215)).map (fun k =>
        fd (4 * k) 4 (if 8 * j + k = 204 then .ro else .rws) (mapReset (8 * j + k))) })

/-- LG page (16 R499). -/
def lgRegs : List RegD :=
  [ { off := 0x040, fields := ro32 },
    { off := 0x044, fields := [fd 0 2 .ro 3, fd 2 1 .ro, fd 3 1 .ro, fd 16 16 .ro] },
    { off := 0x048, fields := [fd 0 3 .ro, fd 3 1 .ro, fd 4 1 .w1c, fd 8 4 .ro, fd 16 16 .ro] },
    { off := 0x04C, fields := [fd 0 16 .ro, fd 16 1 .ro] },
    { off := 0x050, fields := [fd 0 13 .ro, fd 13 1 .ro] } ]

/-- STW page (16 R498). -/
def stwRegs : List RegD :=
  [ { off := 0x040, fields := [fd 0 4 .ro, fd 4 1 .ro, fd 5 1 .ro, fd 6 1 .ro] },
    { off := 0x044, fields := [fd 0 11 .wo] },
    { off := 0x048, fields := [fd 0 1 .ro, fd 1 1 .w1c, fd 4 4 .ro, fd 8 8 .ro, fd 16 16 .ro] },
    { off := 0x04C, fields := [fd 0 1 .so] },
    { off := 0x050, count := 8, fields := rw32 },
    { off := 0x070, fields := ro32 } ]

/-- TOP page (16 R501). -/
def topRegs : List RegD :=
  [ { off := 0x040, fields := [fd 0 8 .ro, fd 8 8 .ro, fd 16 1 .ro, fd 17 1 .ro, fd 24 8 .ro] },
    { off := 0x044, fields := [fd 0 3 .ro 1, fd 8 8 .ro] },
    { off := 0x048, fields := [fd 0 32 .ro 0x7006080E] },
    { off := 0x04C, fields := [fd 0 32 .ro 0x021180D8] },
    { off := 0x050, fields := [fd 0 32 .ro 0x10002000] },
    { off := 0x060, fields := [fd 16 16 .wo] },
    { off := 0x064, fields := [fd 0 1 .rw, fd 1 1 .w1c, fd 8 8 .rw 0x32] } ]

/-- Every register of page `p` but the counters of a counter page. -/
def layout (p : Nat) : List RegD :=
  match kindOf p with
  | none => []
  | some k =>
    headerRegs p ++
    (match k with
     | .node => nodeRegs p
     | .niLoop | .niSys => niRegs (p - 0x100)
     | .fs => fsRegs | .csq => csqRegs | .tu => tuRegs | .fc => fcRegs | .evl => evlRegs | .mm => mmRegs | .cp => cpRegs
     | .pr => prRegs | .pm => pmRegs | .gt => gtRegs | .lg => lgRegs | .stw => stwRegs | .top => topRegs
     | .cntNode | .cntNi => [])

def RegD.has (r : RegD) (off : Nat) : Bool :=
  decide (r.off ≤ off) && decide ((off - r.off) % r.stride = 0) && decide ((off - r.off) / r.stride < r.count)

/-- The fields of the word at offset `off` of page `p`; none for a reserved offset (R520). -/
def fieldsAt (p off : Nat) : List FieldD :=
  match (layout p).find? (fun r => r.has off) with
  | some r => r.fields
  | none => []

/-- The reset value that a page's register table gives the word. -/
def resetWord (p off : Nat) : Word :=
  BitVec.ofNat 32 ((fieldsAt p off).foldl (fun n f => putBits n f.lo f.w f.reset) 0)

/-! ### The register file -/

def regKey (p off : Nat) : Nat := p * 1024 + off / 4

/-- The stored word at offset `off` of page `p`. -/
def Block.rd (b : Block) (p off : Nat) : Word := AMap.get (resetWord p off) b.regs (regKey p off)

def Block.wr (b : Block) (p off : Nat) (w : Word) : Block :=
  { b with regs := AMap.set (resetWord p off) b.regs (regKey p off) w }

/-- The live copy of a shadowed word (R525). -/
def Block.rdLive (b : Block) (p off : Nat) : Word := AMap.get (resetWord p off) b.live (regKey p off)

def Block.wrLive (b : Block) (p off : Nat) (w : Word) : Block :=
  { b with live := AMap.set (resetWord p off) b.live (regKey p off) w }

/-- Every word of page `p` at its reset value. -/
def Block.resetPage (b : Block) (p : Nat) : Block :=
  { b with regs := AMap.drop b.regs (p * 1024) (p * 1024 + 1024), live := AMap.drop b.live (p * 1024) (p * 1024 + 1024) }

/-- A field of a register: its word's offset, lowest bit and width. -/
structure Fld where
  off : Nat
  lo : Nat
  w : Nat

def Block.g (b : Block) (p : Nat) (f : Fld) : Nat := bitsOf (b.rd p f.off).toNat f.lo f.w

def Block.s (b : Block) (p : Nat) (f : Fld) (v : Nat) : Block :=
  b.wr p f.off (BitVec.ofNat 32 (putBits (b.rd p f.off).toNat f.lo f.w v))

/-- Is the one-bit field set? -/
def Block.on (b : Block) (p : Nat) (f : Fld) : Bool := b.g p f != 0

/-- The live value of a shadowed field. -/
def Block.gl (b : Block) (p : Nat) (f : Fld) : Nat := bitsOf (b.rdLive p f.off).toNat f.lo f.w

/-- A two-word field, lower word first. -/
def Block.g64 (b : Block) (p off : Nat) : Nat := (b.rd p off).toNat + 2 ^ 32 * (b.rd p (off + 4)).toNat

def Block.s64 (b : Block) (p off v : Nat) : Block :=
  (b.wr p off (BitVec.ofNat 32 v)).wr p (off + 4) (BitVec.ofNat 32 (v / 2 ^ 32))

/-- Add to a count that stays at its top value. -/
def Block.bump (b : Block) (p : Nat) (f : Fld) (k : Nat := 1) : Block := b.s p f (satAdd f.w (b.g p f) k)

/-- Add to a count that wraps. -/
def Block.wrapInc (b : Block) (p : Nat) (f : Fld) (k : Nat := 1) : Block := b.s p f (b.g p f + k)

/-- Word `j` of a bit map of 32-bit words at `off`, as one number. -/
def Block.bitAt (b : Block) (p off i : Nat) : Bool := bit (b.rd p (off + 4 * (i / 32))).toNat (i % 32)

def Block.setBitAt (b : Block) (p off i : Nat) (v : Bool) : Block :=
  b.s p { off := off + 4 * (i / 32), lo := i % 32, w := 1 } (b2n v)

end Sys2Proof.Machine
end

