-- ==== Sys2Proof/Machine/Fields.lean ====
section
/-! DEFINITION. The register fields by name: REGISTER_FIELD is the field FIELD of REGISTER as the register tables of the
spec give it (R529 names the chapter of each register). -/
namespace Sys2Proof.Machine

def PG_CTRL_DISCARD : Fld := ⟨0x008, 0, 1⟩
def PG_CTRL_REFUSED : Fld := ⟨0x008, 1, 1⟩
def PG_STATUS_READY : Fld := ⟨0x00C, 0, 1⟩
def PG_STATUS_OFF_IMAGE : Fld := ⟨0x00C, 1, 1⟩
def PG_STATUS_SELFTEST : Fld := ⟨0x00C, 2, 1⟩
def PG_STATUS_ISOLATED : Fld := ⟨0x00C, 3, 1⟩
def PG_STATUS_DOMAIN_STATE : Fld := ⟨0x00C, 4, 2⟩
def PG_EV_MASK_MASK : Fld := ⟨0x014, 0, 32⟩
def PG_EV_PEND_PEND : Fld := ⟨0x018, 0, 32⟩
def PG_COMMIT_COMMIT : Fld := ⟨0x020, 0, 1⟩
def PG_COMMIT_COUNT : Fld := ⟨0x020, 16, 16⟩
def PG_LOCK_LOCK : Fld := ⟨0x024, 0, 1⟩
def NODE_EPOCH_CUR : Fld := ⟨0x040, 0, 1⟩
def NODE_EPOCH_LIVE : Fld := ⟨0x040, 2, 2⟩
def NODE_EPOCH_BANK_LOCK : Fld := ⟨0x040, 4, 2⟩
def NODE_EPOCH_ESC_WAIT : Fld := ⟨0x040, 8, 8⟩
def NODE_EPOCH_WR_REFUSED : Fld := ⟨0x040, 16, 1⟩
def NODE_EPOCH_ESC_ORDER : Fld := ⟨0x040, 17, 1⟩
def NODE_EPOCH_NO_ROUTE : Fld := ⟨0x040, 18, 1⟩
def NODE_LINK_PRESENT : Fld := ⟨0x04C, 0, 4⟩
def NODE_LINK_ENABLE : Fld := ⟨0x04C, 4, 4⟩
def NODE_LINK_FAULT : Fld := ⟨0x04C, 8, 4⟩
def NODE_LINK_LOCAL_EN : Fld := ⟨0x04C, 12, 3⟩
def NODE_DRAIN_EMPTY_EVEN : Fld := ⟨0x050, 0, 1⟩
def NODE_DRAIN_EMPTY_ODD : Fld := ⟨0x050, 1, 1⟩
def NODE_DRAIN_FLUSH_EVEN : Fld := ⟨0x050, 8, 1⟩
def NODE_DRAIN_FLUSH_ODD : Fld := ⟨0x050, 9, 1⟩
def NODE_ARB_AGE : Fld := ⟨0x060, 16, 8⟩
def NODE_ARB_PEND : Fld := ⟨0x060, 24, 1⟩
def NODE_ARB_REFUSED : Fld := ⟨0x060, 25, 1⟩
def NODE_ARB_SLOT : Fld := ⟨0x060, 26, 6⟩
def NODE_MARGIN_CFG_SLACK_MIN : Fld := ⟨0x164, 0, 6⟩
def NODE_MARGIN_CFG_TRIM_WARN : Fld := ⟨0x164, 8, 6⟩
def NODE_MARGIN_CFG_LANE_THRESH : Fld := ⟨0x164, 16, 8⟩
def NI_INFO_CUR : Fld := ⟨0x040, 12, 1⟩
def NI_INFO_LIVE : Fld := ⟨0x040, 13, 1⟩
def NI_RSP_TIMER_LIMIT : Fld := ⟨0x04C, 0, 8⟩
def NI_SINK_WDOG_STUCK : Fld := ⟨0x050, 0, 1⟩
def NI_SINK_WDOG_RESUME : Fld := ⟨0x050, 1, 1⟩
def NI_SINK_WDOG_CAUSE : Fld := ⟨0x050, 2, 3⟩
def NI_SINK_WDOG_EPISODES : Fld := ⟨0x050, 16, 16⟩
def NI_LP_STAT_PWR_OK : Fld := ⟨0x05C, 0, 1⟩
def NI_LP_STAT_HELD : Fld := ⟨0x05C, 1, 1⟩
def NI_LP_STAT_SHADOW_BUSY : Fld := ⟨0x05C, 2, 1⟩
def NI_LP_STAT_LATE_ACK : Fld := ⟨0x05C, 3, 1⟩
def NI_LP_STAT_APPLY_FAILS : Fld := ⟨0x05C, 16, 16⟩
def NI_SAMPLE_EN : Fld := ⟨0x060, 0, 1⟩
def NI_SAMPLE_MODE : Fld := ⟨0x060, 1, 1⟩
def NI_SAMPLE_CLASSES : Fld := ⟨0x060, 2, 3⟩
def NI_SAMPLE_POSTED : Fld := ⟨0x060, 5, 1⟩
def NI_SAMPLE_WIN : Fld := ⟨0x060, 6, 2⟩
def NI_SAMPLE_CLEAR : Fld := ⟨0x060, 8, 1⟩
def NI_SAMPLE_RATE_RATE : Fld := ⟨0x064, 0, 16⟩
def NI_SAMPLE_STAT_NEXT : Fld := ⟨0x068, 0, 8⟩
def NI_SAMPLE_STAT_STORED : Fld := ⟨0x068, 8, 9⟩
def NI_HP_IRQ_PEND : Fld := ⟨0x080, 0, 4⟩
def NI_HP_IRQ_ENABLE : Fld := ⟨0x080, 4, 4⟩
def NI_HP_IRQ_MODE : Fld := ⟨0x080, 8, 4⟩
def FS_STATUS_SEAL_BUSY : Fld := ⟨0x040, 0, 1⟩
def FS_STATUS_STREAMING : Fld := ⟨0x040, 1, 4⟩
def FS_SEAL_CMD_CMD : Fld := ⟨0x044, 0, 2⟩
def FS_SEAL_CMD_FROND_ID : Fld := ⟨0x044, 16, 10⟩
def FS_SEAL_ARG0_BASE : Fld := ⟨0x048, 0, 13⟩
def FS_SEAL_ARG0_SIZE : Fld := ⟨0x048, 16, 13⟩
def FS_SEAL_ARG1_BANK_MASK : Fld := ⟨0x04C, 0, 8⟩
def FS_SEAL_ARG1_GEN : Fld := ⟨0x04C, 8, 16⟩
def FS_SEAL_ARG1_N_STREAMS : Fld := ⟨0x04C, 24, 8⟩
def FS_SEAL_RESULT_DONE : Fld := ⟨0x050, 0, 1⟩
def FS_SEAL_RESULT_REFUSED_BUSY : Fld := ⟨0x050, 1, 1⟩
def FS_SEAL_RESULT_CODE : Fld := ⟨0x050, 8, 4⟩
def FS_SEAL_RESULT_FROND_ID : Fld := ⟨0x050, 16, 10⟩
def FS_STREAM_QOS : Fld := ⟨0x054, 0, 4⟩
def FS_STREAM_SEAL_QOS : Fld := ⟨0x054, 4, 4⟩
def FS_SPACE_FREE_KIB : Fld := ⟨0x058, 0, 13⟩
def FS_SPACE_DEFINED : Fld := ⟨0x058, 16, 11⟩
def FS_LOST_FROND_ID : Fld := ⟨0x05C, 0, 10⟩
def FS_LOST_CAUSE : Fld := ⟨0x05C, 10, 2⟩
def FS_LOST_COUNT : Fld := ⟨0x05C, 16, 16⟩
def FS_STREAM_STAT_SKIPPED : Fld := ⟨0x070, 0, 16⟩
def FS_STREAM_STAT_POISON_PKTS : Fld := ⟨0x070, 16, 16⟩
def CSQ_STATUS_ACTIVE : Fld := ⟨0x040, 0, 4⟩
def CSQ_STATUS_STEP_HOLD : Fld := ⟨0x040, 4, 1⟩
def CSQ_STATUS_SAFE_HOLD : Fld := ⟨0x040, 5, 1⟩
def CSQ_STATUS_QUEUE : Fld := ⟨0x040, 8, 4⟩
def CSQ_STATUS_NEXT_CSEQ : Fld := ⟨0x040, 16, 16⟩
def CSQ_VOTE_CUTOFF_NS : Fld := ⟨0x044, 0, 10⟩
def CSQ_GUARD_NS : Fld := ⟨0x048, 0, 8⟩
def CSQ_POLICY_TIME_REQ : Fld := ⟨0x04C, 0, 2⟩
def CSQ_POLICY_NOTIFY_EN : Fld := ⟨0x04C, 2, 1⟩
def CSQ_POLICY_NOTIFY_HP : Fld := ⟨0x04C, 3, 2⟩
def CSQ_POLICY_ONE_TREE : Fld := ⟨0x04C, 5, 1⟩
def CSQ_POLICY_MAX_LEAD : Fld := ⟨0x04C, 8, 10⟩
def CSQ_POLICY_OPEN_LIMIT : Fld := ⟨0x04C, 18, 10⟩
def CSQ_ABORT_NET_DELAY_A : Fld := ⟨0x050, 0, 8⟩
def CSQ_ABORT_NET_DELAY_B : Fld := ⟨0x050, 8, 8⟩
def CSQ_ABORT_NET_GUARD_MIN : Fld := ⟨0x050, 16, 8⟩
def CSQ_ABORT_NET_A_OK : Fld := ⟨0x050, 24, 1⟩
def CSQ_ABORT_NET_B_OK : Fld := ⟨0x050, 25, 1⟩
def CSQ_ABORT_NET_TEST : Fld := ⟨0x050, 26, 1⟩
def CSQ_BUDGET0_TF : Fld := ⟨0x054, 0, 12⟩
def CSQ_BUDGET0_SHARE : Fld := ⟨0x054, 16, 9⟩
def CSQ_BUDGET1_PATH : Fld := ⟨0x058, 0, 10⟩
def CSQ_BUDGET1_FIXED : Fld := ⟨0x058, 16, 10⟩
def CSQ_BUDGET2_CHK : Fld := ⟨0x05C, 0, 8⟩
def CSQ_BUDGET2_LE_QUAD : Fld := ⟨0x05C, 8, 8⟩
def TU_TIME_FRAC : Fld := ⟨0x040, 0, 8⟩
def TU_TIME_STATE : Fld := ⟨0x040, 8, 3⟩
def TU_STATUS_STATE : Fld := ⟨0x050, 0, 3⟩
def TU_STATUS_REF_LOCK : Fld := ⟨0x050, 3, 1⟩
def TU_STATUS_PPS_OK : Fld := ⟨0x050, 4, 1⟩
def TU_STATUS_STEP_PEND : Fld := ⟨0x050, 5, 1⟩
def TU_STATUS_TOD_PEND : Fld := ⟨0x050, 6, 1⟩
def TU_STATUS_ON_IOSC : Fld := ⟨0x050, 7, 1⟩
def TU_STATUS_TOD_MISMATCH : Fld := ⟨0x050, 8, 1⟩
def TU_STATUS_WR_REFUSED : Fld := ⟨0x050, 9, 1⟩
def TU_STATUS_STEP_REFUSED : Fld := ⟨0x050, 10, 1⟩
def TU_STATUS_PPS_MISS : Fld := ⟨0x050, 11, 1⟩
def TU_STATUS_STEPPED : Fld := ⟨0x050, 12, 1⟩
def TU_STATUS_STEP_SEQ : Fld := ⟨0x050, 24, 8⟩
def TU_TOD_LO_SEC_LO : Fld := ⟨0x054, 0, 32⟩
def TU_TOD_HI_SEC_HI : Fld := ⟨0x058, 0, 2⟩
def TU_TOD_HI_FREE : Fld := ⟨0x058, 8, 1⟩
def TU_PPS_DELAY_IN_DELAY : Fld := ⟨0x05C, 0, 20⟩
def TU_PPS_OUT_EN : Fld := ⟨0x060, 0, 1⟩
def TU_PPS_OUT_ONLY_TRACEABLE : Fld := ⟨0x060, 1, 1⟩
def TU_PPS_OUT_WIDTH : Fld := ⟨0x060, 8, 8⟩
def TU_PPS_OUT_ADVANCE : Fld := ⟨0x060, 16, 12⟩
def TU_SLEW_LIMIT_PPM : Fld := ⟨0x068, 0, 7⟩
def TU_OFFSET_FRAC : Fld := ⟨0x06C, 0, 8⟩
def TU_FREQ_CORR : Fld := ⟨0x078, 0, 32⟩
def TU_LATTICE_REVERT : Fld := ⟨0x07C, 0, 1⟩
def TU_LATTICE_FORCE_B : Fld := ⟨0x07C, 1, 1⟩
def TU_LATTICE_ON_B : Fld := ⟨0x07C, 8, 8⟩
def TU_LATTICE_ON_RING : Fld := ⟨0x07C, 16, 8⟩
def TU_LATTICE_ON_NONE : Fld := ⟨0x07C, 24, 8⟩
def TU_PPS_CNT_MISSES : Fld := ⟨0x080, 0, 16⟩
def TU_PPS_CNT_EDGES : Fld := ⟨0x080, 16, 16⟩
def TU_PPS_LAST_FRAC : Fld := ⟨0x084, 0, 8⟩
def FC_STATUS_SAFE : Fld := ⟨0x040, 0, 1⟩
def FC_STATUS_COLLECT_ERR : Fld := ⟨0x040, 1, 1⟩
def FC_STATUS_HELD : Fld := ⟨0x040, 2, 1⟩
def FC_STATUS_SAFE_SEQ : Fld := ⟨0x040, 8, 8⟩
def FC_STATUS_WR_REFUSED : Fld := ⟨0x040, 16, 1⟩
def FC_STATUS_EXIT_REFUSED : Fld := ⟨0x040, 17, 1⟩
def FC_PEND_PEND : Fld := ⟨0x044, 0, 16⟩
def FC_ACK_ACK : Fld := ⟨0x048, 0, 16⟩
def FC_FIRST_SOURCE : Fld := ⟨0x054, 0, 10⟩
def FC_FIRST_LEVEL : Fld := ⟨0x054, 10, 2⟩
def FC_FIRST_CLASS : Fld := ⟨0x054, 12, 4⟩
def FC_FIRST_VALID : Fld := ⟨0x054, 16, 1⟩
def FC_LOG_PTR_NEXT : Fld := ⟨0x060, 0, 5⟩
def FC_LOG_PTR_TOTAL : Fld := ⟨0x060, 16, 16⟩
def EVL_STATUS_KEY_STATE : Fld := ⟨0x040, 0, 2⟩
def EVL_STATUS_ACTIVE : Fld := ⟨0x040, 2, 1⟩
def EVL_STATUS_GAP_OPEN : Fld := ⟨0x040, 3, 1⟩
def EVL_STATUS_FULL : Fld := ⟨0x040, 4, 1⟩
def EVL_STATUS_WARN : Fld := ⟨0x040, 5, 1⟩
def EVL_STATUS_RESERVED : Fld := ⟨0x040, 8, 4⟩
def EVL_STATUS_WR_REFUSED : Fld := ⟨0x040, 16, 1⟩
def EVL_STATUS_TAG_ERR : Fld := ⟨0x040, 17, 1⟩
def EVL_STATUS_CKPT_WR_ERR : Fld := ⟨0x040, 18, 1⟩
def EVL_POLICY_ENABLE : Fld := ⟨0x044, 0, 1⟩
def EVL_POLICY_EMERGENCY : Fld := ⟨0x044, 1, 1⟩
def EVL_POLICY_LOCK : Fld := ⟨0x044, 2, 1⟩
def EVL_POLICY_FULL_WARN : Fld := ⟨0x044, 8, 4⟩
def EVL_HEAD_P : Fld := ⟨0x048, 0, 32⟩
def EVL_TAIL_P : Fld := ⟨0x04C, 0, 32⟩
def EVL_DRAIN_EN : Fld := ⟨0x050, 0, 1⟩
def EVL_DRAIN_QOS : Fld := ⟨0x050, 4, 4⟩
def EVL_DRAIN_RING_LOG2 : Fld := ⟨0x050, 8, 5⟩
def EVL_DRAIN_PTR_P : Fld := ⟨0x054, 0, 32⟩
def EVL_CKPT_NEWEST : Fld := ⟨0x068, 0, 6⟩
def EVL_CKPT_RING_VALID : Fld := ⟨0x068, 6, 1⟩
def EVL_CKPT_REQUEST : Fld := ⟨0x068, 7, 1⟩
def EVL_CKPT_KEY_ID : Fld := ⟨0x068, 16, 16⟩
def EVL_GAP_OMITTED : Fld := ⟨0x06C, 0, 32⟩
def GT_STATUS_SWAP_PEND : Fld := ⟨0x040, 0, 1⟩
def GT_STATUS_MAP_PEND : Fld := ⟨0x040, 1, 1⟩
def GT_STATUS_WR_REFUSED : Fld := ⟨0x040, 8, 1⟩
def GT_STATUS_SWAP_CANCELLED : Fld := ⟨0x040, 9, 1⟩
def GT_WIN_SEL_NODE : Fld := ⟨0x050, 0, 7⟩
def GT_WIN_SEL_WIN : Fld := ⟨0x050, 7, 3⟩
def GT_WIN_SEL_SET : Fld := ⟨0x050, 10, 1⟩
def GT_WIN_SEL_READ : Fld := ⟨0x050, 16, 1⟩
def GT_WIN_SEL_WRITE : Fld := ⟨0x050, 17, 1⟩
def GT_WIN_SEL_BUSY : Fld := ⟨0x050, 18, 1⟩
def GT_WIN_SEL_ERR : Fld := ⟨0x050, 19, 1⟩
def MM_STATUS_LC_WIPE : Fld := ⟨0x040, 14, 1⟩
def MM_STATUS_WR_REFUSED : Fld := ⟨0x040, 15, 1⟩
def MM_STATUS_POISON_OVF : Fld := ⟨0x040, 16, 16⟩
def MM_WIPE_REGION : Fld := ⟨0x044, 0, 5⟩
def MM_WIPE_GO : Fld := ⟨0x044, 8, 1⟩
def MM_WIPE_BUSY : Fld := ⟨0x044, 9, 1⟩
def MM_WIPE_REFUSED : Fld := ⟨0x044, 10, 1⟩
def MM_FLIPMASK_POS0 : Fld := ⟨0x048, 0, 8⟩
def MM_FLIPMASK_POS1 : Fld := ⟨0x048, 8, 8⟩
def MM_FLIPMASK_POS2 : Fld := ⟨0x048, 16, 8⟩
def MM_FLIPMASK_REGION : Fld := ⟨0x048, 24, 5⟩
def MM_FLIPMASK_ARM : Fld := ⟨0x048, 29, 1⟩
def MM_FLIPMASK_DONE : Fld := ⟨0x048, 30, 1⟩
def MM_REPEAT_CFG_THRESH : Fld := ⟨0x054, 0, 4⟩
def MM_REPEAT_CFG_CLEAR : Fld := ⟨0x054, 4, 1⟩
def MM_COUNTS_CE : Fld := ⟨0x058, 0, 16⟩
def MM_COUNTS_UE : Fld := ⟨0x058, 16, 16⟩
def PM_STATUS_DEV_STATE : Fld := ⟨0x040, 0, 3⟩
def PM_STATUS_BUSY : Fld := ⟨0x040, 3, 1⟩
def PM_STATUS_REFUSE : Fld := ⟨0x040, 4, 4⟩
def PM_STATUS_REQ_REFUSED : Fld := ⟨0x040, 8, 1⟩
def PM_STATUS_WR_REFUSED : Fld := ⟨0x040, 9, 1⟩
def PM_STATUS_WAKE_DROPPED : Fld := ⟨0x040, 16, 16⟩
def PM_REQ_DOMAINS : Fld := ⟨0x044, 0, 26⟩
def PM_REQ_TARGET : Fld := ⟨0x044, 26, 2⟩
def PM_REQ_TEST : Fld := ⟨0x044, 28, 1⟩
def PM_REQ_GO : Fld := ⟨0x044, 29, 1⟩
def PM_WAKE_EN_EN : Fld := ⟨0x04C, 0, 11⟩
def PM_WAKE_LAST_SOURCE : Fld := ⟨0x050, 0, 4⟩
def PM_WAKE_LAST_DOMAIN : Fld := ⟨0x050, 8, 5⟩
def PM_WAKE_LAST_RESULT : Fld := ⟨0x050, 16, 4⟩
def PM_WAKE_LAST_ATTEMPTS : Fld := ⟨0x050, 20, 2⟩
def PM_WAKE_TIMER_HI_T : Fld := ⟨0x064, 0, 31⟩
def PM_WAKE_TIMER_HI_ARMED : Fld := ⟨0x064, 31, 1⟩
def PR_STATUS_BUSY : Fld := ⟨0x040, 0, 1⟩
def PR_STATUS_PEND : Fld := ⟨0x040, 1, 1⟩
def PR_STATUS_WR_REFUSED : Fld := ⟨0x040, 2, 1⟩
def PR_STATUS_SKIPPED : Fld := ⟨0x040, 8, 24⟩
def PR_DUMP_CTRL_EN : Fld := ⟨0x044, 0, 1⟩
def PR_DUMP_CTRL_NODES : Fld := ⟨0x044, 1, 1⟩
def PR_DUMP_CTRL_NIS : Fld := ⟨0x044, 2, 1⟩
def PR_DUMP_CTRL_ONE_SHOT : Fld := ⟨0x044, 3, 1⟩
def PR_DUMP_CTRL_QOS : Fld := ⟨0x044, 4, 4⟩
def PR_DUMP_CTRL_RING_LOG2 : Fld := ⟨0x044, 8, 3⟩
def PR_DUMP_PERIOD_PERIOD : Fld := ⟨0x050, 0, 22⟩
def PR_DUMP_SEQ_SEQ : Fld := ⟨0x054, 0, 32⟩
def STW_STATUS_STEP : Fld := ⟨0x040, 0, 4⟩
def STW_STATUS_READY : Fld := ⟨0x040, 4, 1⟩
def STW_STATUS_HALT : Fld := ⟨0x040, 5, 1⟩
def STW_STATUS_EPOCH_BUSY : Fld := ⟨0x040, 6, 1⟩
def STW_MBOX_STATUS_BUSY : Fld := ⟨0x048, 0, 1⟩
def STW_MBOX_STATUS_WR_REFUSED : Fld := ⟨0x048, 1, 1⟩
def STW_MBOX_STATUS_RESULT : Fld := ⟨0x048, 4, 4⟩
def STW_MBOX_STATUS_CMD : Fld := ⟨0x048, 8, 8⟩
def STW_MBOX_STATUS_DONE : Fld := ⟨0x048, 16, 16⟩
def STW_REMAP_MAP : Fld := ⟨0x04C, 0, 1⟩
def STW_EPOCH_EPOCH : Fld := ⟨0x070, 0, 32⟩
def LG_CFG_SEQ_SEQ : Fld := ⟨0x040, 0, 32⟩
def LG_CFG_STAT_IN_USE : Fld := ⟨0x044, 0, 2⟩
def LG_CFG_STAT_A_VALID : Fld := ⟨0x044, 2, 1⟩
def LG_CFG_STAT_B_VALID : Fld := ⟨0x044, 3, 1⟩
def LG_CFG_STAT_SKIPPED : Fld := ⟨0x044, 16, 16⟩
def LG_WEAR_STAT_SLOT : Fld := ⟨0x048, 0, 3⟩
def LG_WEAR_STAT_FLUSH_BUSY : Fld := ⟨0x048, 3, 1⟩
def LG_WEAR_STAT_FLUSH_ERR : Fld := ⟨0x048, 4, 1⟩
def LG_WEAR_STAT_USED : Fld := ⟨0x048, 8, 4⟩
def LG_WEAR_STAT_FLUSHES : Fld := ⟨0x048, 16, 16⟩
def LG_EPOCH_EPOCH : Fld := ⟨0x04C, 0, 16⟩
def LG_EPOCH_SAT : Fld := ⟨0x04C, 16, 1⟩
def LG_REPAIR_ENTRIES : Fld := ⟨0x050, 0, 13⟩
def LG_REPAIR_FULL : Fld := ⟨0x050, 13, 1⟩
def TOP_LC_STATE_STATE : Fld := ⟨0x040, 0, 8⟩
def TOP_LC_STATE_PINS : Fld := ⟨0x040, 8, 8⟩
def TOP_LC_STATE_INVALID : Fld := ⟨0x040, 16, 1⟩
def TOP_LC_STATE_PREPARED : Fld := ⟨0x040, 17, 1⟩
def TOP_LC_STATE_TARGET : Fld := ⟨0x040, 24, 8⟩
def TOP_RESET_CAUSE_CAUSE : Fld := ⟨0x044, 0, 3⟩
def TOP_RESET_CAUSE_FRSTS : Fld := ⟨0x044, 8, 8⟩
def TOP_WDOG_EN : Fld := ⟨0x064, 0, 1⟩
def TOP_WDOG_WR_REFUSED : Fld := ⟨0x064, 1, 1⟩
def TOP_WDOG_LIMIT : Fld := ⟨0x064, 8, 8⟩
def CP_STATUS_STATE : Fld := ⟨0x040, 0, 2⟩
def CP_STATUS_SIGNED : Fld := ⟨0x040, 2, 2⟩
def CP_STATUS_ANCHOR_SET : Fld := ⟨0x040, 4, 1⟩
def CP_STATUS_WALK_BUSY : Fld := ⟨0x040, 5, 1⟩
def CP_STATUS_WR_REFUSED : Fld := ⟨0x040, 6, 1⟩
def CP_STATUS_SLOT : Fld := ⟨0x040, 8, 3⟩
def CP_STATUS_CHANGES : Fld := ⟨0x040, 16, 8⟩
def CP_LIFE_WORST : Fld := ⟨0x058, 0, 14⟩
def CP_LIFE_PCT : Fld := ⟨0x058, 16, 11⟩
def CP_LIFE_W80 : Fld := ⟨0x058, 27, 1⟩
def CP_LIFE_W95 : Fld := ⟨0x058, 28, 1⟩
def CP_LIFE_W100 : Fld := ⟨0x058, 29, 1⟩

def NODE_ESC_TREE (b : Nat) : Fld := ⟨0x044+4*b, 0, 4⟩
def NODE_ESC_PARENT (b : Nat) : Fld := ⟨0x044+4*b, 4, 3⟩
def NODE_ESC_DEPTH (b : Nat) : Fld := ⟨0x044+4*b, 8, 8⟩
def NODE_DISCARD (b : Nat) : Fld := ⟨0x054, 16*b, 16⟩
def NODE_ARB_PROFILE_BAD (p : Nat) : Fld := ⟨0x060+4*p, 8, 1⟩
def NODE_ARB_PROFILE_RANKS (p : Nat) : Fld := ⟨0x060+4*p, 0, 8⟩
def NODE_MARGIN_PORT_TRIM (p : Nat) : Fld := ⟨0x140+4*p, 0, 6⟩
def NODE_MARGIN_PORT_SLACK (p : Nat) : Fld := ⟨0x140+4*p, 8, 6⟩
def NODE_MARGIN_PORT_WARN (p : Nat) : Fld := ⟨0x140+4*p, 14, 1⟩
def NODE_MARGIN_PORT_EXHAUSTED (p : Nat) : Fld := ⟨0x140+4*p, 15, 1⟩
def NODE_MARGIN_PORT_CYCLE (p : Nat) : Fld := ⟨0x140+4*p, 16, 12⟩
def NODE_LANE_WATCH_WIRE (q : Nat) : Fld := ⟨0x170+4*q, 0, 8⟩
def NODE_LANE_WATCH_COUNT (q : Nat) : Fld := ⟨0x170+4*q, 8, 8⟩
def NI_SORUS_STATE (b : Nat) : Fld := ⟨0x054+4*b, 0, 2⟩
def NI_SORUS_SLOT (b : Nat) : Fld := ⟨0x054+4*b, 2, 2⟩
def NI_SORUS_COUNT (b : Nat) : Fld := ⟨0x054+4*b, 4, 11⟩
def NI_SORUS_PARITY_ERR (b : Nat) : Fld := ⟨0x054+4*b, 15, 1⟩
def NI_SORUS_CSEQ (b : Nat) : Fld := ⟨0x054+4*b, 16, 16⟩
def FS_SLOT_FROND_ID (k : Nat) : Fld := ⟨0x060+4*k, 0, 10⟩
def FS_SLOT_ACTIVE (k : Nat) : Fld := ⟨0x060+4*k, 10, 1⟩
def FS_SLOT_CSEQ (k : Nat) : Fld := ⟨0x060+4*k, 16, 16⟩
def CSQ_SLOT_CMD (k : Nat) : Fld := ⟨0x100+0x80*k, 0, 2⟩
def CSQ_SLOT_MODE (k : Nat) : Fld := ⟨0x100+0x80*k, 2, 1⟩
def CSQ_SLOT_SWAP (k : Nat) : Fld := ⟨0x100+0x80*k, 3, 1⟩
def CSQ_SLOT_NO_STAGE (k : Nat) : Fld := ⟨0x100+0x80*k, 4, 1⟩
def CSQ_SLOT_STATE (k : Nat) : Fld := ⟨0x100+0x80*k, 8, 3⟩
def CSQ_SLOT_WR_REFUSED (k : Nat) : Fld := ⟨0x100+0x80*k, 11, 1⟩
def CSQ_SLOT_REFUSE (k : Nat) : Fld := ⟨0x100+0x80*k, 12, 4⟩
def CSQ_SLOT_CSEQ (k : Nat) : Fld := ⟨0x100+0x80*k, 16, 16⟩
def CSQ_FROND_LAUNCH_FROND_ID (k : Nat) : Fld := ⟨0x104+0x80*k, 0, 10⟩
def CSQ_FROND_LAUNCH_HOST_PORT (k : Nat) : Fld := ⟨0x104+0x80*k, 10, 2⟩
def CSQ_FROND_LAUNCH_MAX_COUNT (k : Nat) : Fld := ⟨0x104+0x80*k, 16, 11⟩
def CSQ_OUTCOME_CODE (k : Nat) : Fld := ⟨0x130+0x80*k, 0, 4⟩
def CSQ_OUTCOME_CAUSE (k : Nat) : Fld := ⟨0x130+0x80*k, 4, 4⟩
def CSQ_OUTCOME_VALID (k : Nat) : Fld := ⟨0x130+0x80*k, 8, 1⟩
def CSQ_OUTCOME_WORST (k : Nat) : Fld := ⟨0x130+0x80*k, 9, 3⟩
def CSQ_OUTCOME_CSEQ (k : Nat) : Fld := ⟨0x130+0x80*k, 16, 16⟩
def CSQ_COUNTS_RELEASED (k : Nat) : Fld := ⟨0x134+0x80*k, 0, 8⟩
def CSQ_COUNTS_DISCARDED (k : Nat) : Fld := ⟨0x134+0x80*k, 8, 8⟩
def CSQ_COUNTS_FAILED (k : Nat) : Fld := ⟨0x134+0x80*k, 16, 8⟩
def CSQ_COUNTS_NOT_READY (k : Nat) : Fld := ⟨0x134+0x80*k, 24, 8⟩
def CSQ_BAD_NI (k : Nat) : Fld := ⟨0x138+0x80*k, 0, 9⟩
def CSQ_BAD_VALID (k : Nat) : Fld := ⟨0x138+0x80*k, 9, 1⟩
def CSQ_BAD_VOTE (k : Nat) : Fld := ⟨0x138+0x80*k, 12, 4⟩
def CSQ_SLOT_EFF_CUTOFF (k : Nat) : Fld := ⟨0x16C+0x80*k, 0, 10⟩
def CSQ_SLOT_EFF_GUARD (k : Nat) : Fld := ⟨0x16C+0x80*k, 16, 8⟩
def TU_CELL_SRC (n : Nat) : Fld := ⟨0x200+4*n, 0, 2⟩
def TU_CELL_READY (n : Nat) : Fld := ⟨0x200+4*n, 2, 1⟩
def TU_CELL_DELAY (n : Nat) : Fld := ⟨0x200+4*n, 4, 16⟩
def TU_CELL_WORD_ERR (n : Nat) : Fld := ⟨0x200+4*n, 20, 8⟩
def FC_CLASS_CFG_ACK_TIME (c : Nat) : Fld := ⟨0x080+4*c, 0, 20⟩
def FC_CLASS_CFG_FLOOR (c : Nat) : Fld := ⟨0x080+4*c, 20, 2⟩
def FC_CLASS_CFG_HP (c : Nat) : Fld := ⟨0x080+4*c, 22, 2⟩
def FC_CLASS_CFG_LINE (c : Nat) : Fld := ⟨0x080+4*c, 24, 2⟩
def FC_CLASS_CFG_EVENT_EN (c : Nat) : Fld := ⟨0x080+4*c, 26, 1⟩
def FC_CLASS_CFG_LOG_L0 (c : Nat) : Fld := ⟨0x080+4*c, 27, 1⟩
def FC_CLASS_CFG_CAP3 (c : Nat) : Fld := ⟨0x080+4*c, 28, 1⟩
def MM_REGION_CODE (r : Nat) : Fld := ⟨0x080+4*r, 0, 2⟩
def MM_REGION_LIVE (r : Nat) : Fld := ⟨0x080+4*r, 2, 2⟩
def MM_REGION_FIXED (r : Nat) : Fld := ⟨0x080+4*r, 4, 1⟩
def MM_SCRUB_RATE_INTERVAL (r : Nat) : Fld := ⟨0x100+4*r, 0, 20⟩
def MM_SCRUB_POS_WORD (r : Nat) : Fld := ⟨0x140+4*r, 0, 19⟩
def MM_SCRUB_POS_PASSES (r : Nat) : Fld := ⟨0x140+4*r, 19, 13⟩
def PM_DOMAIN_STATE (d : Nat) : Fld := ⟨0x100+4*d, 0, 2⟩
def PM_DOMAIN_PHASE (d : Nat) : Fld := ⟨0x100+4*d, 2, 4⟩
def PM_DOMAIN_IMG_VALID (d : Nat) : Fld := ⟨0x100+4*d, 6, 1⟩
def PM_DOMAIN_HELD (d : Nat) : Fld := ⟨0x100+4*d, 7, 1⟩
def PM_DOMAIN_WAKE_LATCHED (d : Nat) : Fld := ⟨0x100+4*d, 8, 1⟩
def PM_DOMAIN_FAIL (d : Nat) : Fld := ⟨0x100+4*d, 12, 4⟩
def PM_DOMAIN_ATTEMPTS (d : Nat) : Fld := ⟨0x100+4*d, 16, 2⟩
def PM_RAIL_STATUS_APPLIED (r : Nat) : Fld := ⟨0x080+4*r, 0, 8⟩
def PM_RAIL_STATUS_STATE (r : Nat) : Fld := ⟨0x080+4*r, 8, 2⟩
def PM_RAIL_STATUS_WAIT_COMMIT (r : Nat) : Fld := ⟨0x080+4*r, 10, 1⟩
def PM_RAIL_STATUS_REFUSED (r : Nat) : Fld := ⟨0x080+4*r, 11, 1⟩
def PM_RAIL_STATUS_PG (r : Nat) : Fld := ⟨0x080+4*r, 12, 1⟩
def PM_RAIL_STATUS_STATUS_WORD (r : Nat) : Fld := ⟨0x080+4*r, 16, 16⟩
def PM_RAIL_CFG_ADDR (r : Nat) : Fld := ⟨0x090+4*r, 0, 7⟩
def PM_RAIL_CFG_PEC (r : Nat) : Fld := ⟨0x090+4*r, 7, 1⟩
def PM_RAIL_CFG_PAGE (r : Nat) : Fld := ⟨0x090+4*r, 8, 8⟩
def PM_RAIL_CFG_VOUT_EXP (r : Nat) : Fld := ⟨0x090+4*r, 16, 5⟩
def PM_RAIL_CFG_AUTO_OFF (r : Nat) : Fld := ⟨0x090+4*r, 21, 1⟩
def PM_WAKE_SET_DOMAINS (k : Nat) : Fld := ⟨0x0A0+4*(k-2), 0, 26⟩
def FC_LEVEL (c : Nat) : Fld := ⟨0x04C, 2 * c, 2⟩
def FC_COUNT (c : Nat) : Fld := ⟨0x0C0 + 4 * (c / 2), 16 * (c % 2), 16⟩
def NI_REACH (d : Nat) : Fld := ⟨0x100 + 4 * (d / 16), 2 * (d % 16), 2⟩
def NI_REACH_NEXT (d : Nat) : Fld := ⟨0x140 + 4 * (d / 16), 2 * (d % 16), 2⟩
def NODE_RT_NPORT (b i : Nat) : Fld := ⟨0x400 + 0x100 * b + 4 * (i / 4), 8 * (i % 4), 3⟩
def NODE_RT_EPORT (b i : Nat) : Fld := ⟨0x400 + 0x100 * b + 4 * (i / 4), 8 * (i % 4) + 4, 3⟩
def NODE_SLOT_ENTRY (o t : Nat) : Fld := ⟨0x080 + 0x10 * o + 4 * (t / 16), 2 * (t % 16), 2⟩
def NODE_LANE_MAP (i s : Nat) : Fld := ⟨0x100 + 4 * i, 8 * s, 8⟩
def GT_MG_MAP (s : Nat) : Fld := ⟨0x080 + 4 * (s / 8), 4 * (s % 8), 4⟩
def PM_RAIL_TARGET (r : Nat) : Fld := ⟨0x070, 8 * r, 8⟩
def PM_VFLOOR (r : Nat) : Fld := ⟨0x074, 8 * r, 8⟩
def NI_WEAR (j : Nat) : Nat := 0x400 + 8 * j
def CSQ_RELEASE_T (k : Nat) : Nat := 0x108 + 0x80 * k
def CSQ_TARGETS (k : Nat) : Nat := 0x110 + 0x80 * k
def CSQ_COMMIT_ID (k : Nat) : Nat := 0x13C + 0x80 * k
def CSQ_MIN_REL (k : Nat) : Nat := 0x140 + 0x80 * k
def CSQ_MAX_REL (k : Nat) : Nat := 0x148 + 0x80 * k
def CSQ_FAULTMAP (k : Nat) : Nat := 0x150 + 0x80 * k
def GT_SWAP_T : Nat := 0x048
def GT_WIN_DATA (j : Nat) : Nat := 0x054 + 4 * j
def EVL_DRAIN_BASE : Nat := 0x058
def EVL_CHAIN_CTR : Nat := 0x060
def EVL_PUBKEY : Nat := 0x080
def EVL_HOST_DIGEST (k : Nat) : Nat := 0x0A0 + 0x20 * k
def EVL_HEAD_MAC : Nat := 0x120
def STW_MBOX_ARG (j : Nat) : Nat := 0x050 + 4 * j
def PM_WAKE_TIMER : Nat := 0x060
def PR_DUMP_BASE : Nat := 0x048
def MM_FLIP_ADDR : Nat := 0x04C
def CP_ID : Nat := 0x048
def CP_ANCHOR (j : Nat) : Nat := 0x060 + 4 * j
def FC_SRC_PEND : Nat := 0x100
def FC_FIRST_STAMP : Nat := 0x058
def FC_LOG (i : Nat) : Nat := 0x200 + 16 * i
def TU_PPS_LAST_STAMP : Nat := 0x088
def TU_OFFSET_NS : Nat := 0x070
def PM_WAKE_LAST_STAMP : Nat := 0x054
def NI_RGN (s r : Nat) : Nat := 0x200 + 0x100 * s + 0x10 * r
def NI_HP_MSI_ADDR (k : Nat) : Nat := 0x088 + 4 * k
def NI_HP_MSI_DATA (k : Nat) : Nat := 0x098 + 4 * k

end Sys2Proof.Machine
end

