-- ==== Sys2Proof/Machine/Flags.lean ====
section
/-! DEFINITION. Events, sticky flags and counters: what a condition leaves behind when it happens
(12 R359, R361, R363; 15 R448-R450; 18 R523). -/
namespace Sys2Proof.Machine

/-! ### Events -/

/-- Merge a further event into one that waits, or add it (R359). MERGED stays at 255 (R361). -/
def mergeEvent (e : Event) : List Event → List Event
  | [] => [e]
  | x :: xs =>
    if x.src = e.src ∧ x.cls = e.cls then
      { x with lvl := max x.lvl e.lvl, merged := satAdd 8 x.merged (1 + e.merged) } :: xs
    else x :: mergeEvent e xs

-- DEDUCED (notes/assumptions/10.md)
/-- Bit k of PG_EV_PEND, PG_EV_MASK for source FIRST + k. -/
def evBit (src : Nat) : Nat := src - (sourcesOf (pageOfSource src)).1

/-- A source raises an event (R359). PG_EV_PEND records it at any level; PG_EV_MASK keeps L0 events from the collector. -/
def Block.raise (b : Block) (src cls lvl : Nat) (detail : Nat := 0) : Block :=
  let p := pageOfSource src
  let b := b.s p ⟨0x018, evBit src, 1⟩ 1
  if lvl = 0 ∧ b.on p ⟨0x014, evBit src, 1⟩ then b
  else { b with events := mergeEvent { src := src, cls := cls, lvl := lvl, detail := detail % 2 ^ 16,
                                       stamp := BitVec.ofNat 64 b.stamp } b.events }

/-- Does source `src` hold an undelivered event (PG_EV_RAW, R523)? -/
def Block.evRaw (b : Block) (src : Nat) : Bool := b.events.any (fun e => e.src == src)

/-- DETAIL of GATE and SEC events with no fabric or service-port access behind them (R546). -/
def noSrc : Nat := 0xFFFF
def servSrc : Nat := 0xFFFE

/-! ### Counters (R448) -/

def cntKey (p off : Nat) : Nat := p * 512 + off / 8

def Block.counter (b : Block) (p off : Nat) : Counter := AMap.get 0 b.cnt (cntKey p off)
def Block.setCounter (b : Block) (p off : Nat) (c : Counter) : Block :=
  { b with cnt := AMap.set 0 b.cnt (cntKey p off) c }

/-- Add `k` to a counter word: VALUE wraps past the top and WRAP is set (R448). -/
def counterAdd (c : Counter) (k : Nat) : Counter :=
  let v := c.toNat % 2 ^ 48 + k
  BitVec.ofNat 64 (v % 2 ^ 48 + c.toNat / 2 ^ 62 * 2 ^ 62) ||| (if 2 ^ 48 ≤ v then 0x8000000000000000#64 else 0)

def Block.count (b : Block) (p off : Nat) (k : Nat := 1) : Block :=
  if k = 0 then b else b.setCounter p off (counterAdd (b.counter p off) k)

/-- NI counters (R456). -/
def Block.cntNi (b : Block) (i off : Nat) : Block := b.count (pgCntNi i) off
def cLOCAL : Nat := 0x180
def cWRP_DROP : Nat := 0x188
def cRX_DISCARD : Nat := 0x190
def cCMT_RX : Nat := 0x198
def cSAMPLED : Nat := 0x1A0
def cSAMPLE_LOST : Nat := 0x1A8
def cREC_DROP : Nat := 0x1B0
def cLATE_ACK : Nat := 0x1B8
def cINJ (c : Nat) : Nat := 0x040 + 8 * c
def cDONE (s : Nat) : Nat := 0x080 + 8 * s
def cSERVED (s : Nat) : Nat := 0x100 + 8 * s

/-! ### Parts of State -/

def Block.node (b : Block) (n : Nat) : Node := AMap.get {} b.nodes n
def Block.setNode (b : Block) (n : Nat) (v : Node) : Block := { b with nodes := AMap.set {} b.nodes n v }
def Block.modNode (b : Block) (n : Nat) (f : Node → Node) : Block := b.setNode n (f (b.node n))

def Block.ni (b : Block) (i : Nat) : Ni := AMap.get {} b.nis i
def Block.setNi (b : Block) (i : Nat) (v : Ni) : Block := { b with nis := AMap.set {} b.nis i v }
def Block.modNi (b : Block) (i : Nat) (f : Ni → Ni) : Block := b.setNi i (f (b.ni i))

def Block.cell (b : Block) (n : Nat) : Cell := AMap.get {} b.cells n
def Block.modCell (b : Block) (n : Nat) (f : Cell → Cell) : Block := { b with cells := AMap.set {} b.cells n (f (b.cell n)) }

-- DESIGN CHOICE (notes/assumptions/96.md)
/-- The error of a cell on source `s` in 1/256 ns: within 0.60 ns on a tree and 0.75 ns on the ring (05 R146). -/
def cellErr (n s : Nat) : Int :=
  let lim : Nat := if s < 2 then 153 else 192
  (Config.cellError n s % (2 * lim + 1) : Nat) - (lim : Int)

-- DESIGN CHOICE (notes/assumptions/96.md)
/-- What node `n`'s own device time is ahead of the TU's, in 1/256 ns (05 R138, R143). A cell that has taken no label yet runs with the TU. -/
def Block.cellShift (b : Block) (n : Nat) : Int :=
  match (b.cell n).off with
  | some o => o * 256 + cellErr n (b.g pgTU (TU_CELL_SRC n))
  | none => 0

/-- Device time as node `n`'s cell has it, in 1/256 ns (05 R143, R144). -/
def Block.cellNow (b : Block) (n : Nat) : Nat := ((b.now : Int) + b.cellShift n).toNat
/-- The same in whole ns, as a full stamp and as a header stamp. -/
def Block.cellNs (b : Block) (n : Nat) : Nat := b.cellNow n / 256
def Block.cellStamp (b : Block) (n : Nat) : Nat := stampAt (b.cellNow n)
def Block.cellHdr (b : Block) (n : Nat) : Nat := b.cellNow n / 256 % 2 ^ 32

def Block.slot (b : Block) (k : Nat) : Slot := AMap.get {} b.csq.slots k
def Block.modSlot (b : Block) (k : Nat) (f : Slot → Slot) : Block :=
  { b with csq := { b.csq with slots := AMap.set {} b.csq.slots k (f (b.slot k)) } }

def Block.fsb (b : Block) (k : Nat) : Fs := AMap.get {} b.fs k
def Block.modFs (b : Block) (k : Nat) (f : Fs → Fs) : Block := { b with fs := AMap.set {} b.fs k (f (b.fsb k)) }

def Block.dom (b : Block) (d : Nat) : Dom := AMap.get {} b.pm.doms d
def Block.modDom (b : Block) (d : Nat) (f : Dom → Dom) : Block :=
  { b with pm := { b.pm with doms := AMap.set {} b.pm.doms d (f (b.dom d)) } }

def Block.rail (b : Block) (r : Nat) : Rail := AMap.get {} b.pm.rails r
def Block.modRail (b : Block) (r : Nat) (f : Rail → Rail) : Block :=
  { b with pm := { b.pm with rails := AMap.set {} b.pm.rails r (f (b.rail r)) } }

def Block.port (b : Block) (m : Nat) : MPort := AMap.get {} b.ports m
def Block.modPort (b : Block) (m : Nat) (f : MPort → MPort) : Block := { b with ports := AMap.set {} b.ports m (f (b.port m)) }

def Ni.crec (v : Ni) (k : Nat) : CRec := AMap.get {} v.recs k
def Block.crec (b : Block) (i k : Nat) : CRec := (b.ni i).crec k
def Block.modRec (b : Block) (i k : Nat) (f : CRec → CRec) : Block :=
  b.modNi i (fun v => { v with recs := AMap.set {} v.recs k (f (v.crec k)) })

/-! ### Conditions used by many rules -/

/-- The level of LP_PWR_OK of loop NI `i` (09 R283, R301). -/
def Block.lpPwr (b : Block) (i : Nat) : Bool := b.pins.lpPwr.contains i
def Block.lpDown (b : Block) (i : Nat) : Bool := isLoopNi i && !b.lpPwr i

-- DEDUCED (notes/assumptions/68.md)
/-- Is the endpoint of NI `i` stuck, by its watchdog or for want of power (09 R275, R283)? -/
def Block.stuck (b : Block) (i : Nat) : Bool := b.on (pgNi i) NI_SINK_WDOG_STUCK || b.lpDown i

/-- Domain state codes of R389: 0 ON, 1 RETAIN, 2 OFF. -/
def Block.domState (b : Block) (d : Nat) : Nat := b.g pgPM (PM_DOMAIN_STATE d)
def Block.domPhase (b : Block) (d : Nat) : Nat := b.g pgPM (PM_DOMAIN_PHASE d)

def Block.safe (b : Block) : Bool := b.on pgFC FC_STATUS_SAFE

/-- The life-cycle code in force (16 R485). -/
def Block.lcState (b : Block) : Nat := b.g pgTOP TOP_LC_STATE_STATE

/-- Time status codes (05 R123). -/
def Block.timeStatus (b : Block) : Nat := b.g pgTU TU_STATUS_STATE

/-- Slot states (06 R168). -/
def Block.slotState (b : Block) (k : Nat) : Nat := b.g pgCSQ (CSQ_SLOT_STATE k)

def Block.allSlotsIdle (b : Block) : Bool := (List.range 4).all (fun k => b.slotState k == 0)

end Sys2Proof.Machine
end

