-- ==== Sys2Proof/Machine/Packets.lean ====
section
/-! DEFINITION. Packets as flits: the two header layouts, the opcode table, the flit sequence, and the CRCs
(02 R22-R45; 05 R137; 16 R475). -/
namespace Sys2Proof.Machine

/-! ### Opcodes, classes and status codes (R37, R46, R54) -/

def oRD : Nat := 0x00
def oWR : Nat := 0x01
def oWRP : Nat := 0x02
def oADD : Nat := 0x03
def oSWAP : Nat := 0x04
def oMSG : Nat := 0x05
def oSTAGE : Nat := 0x08
def oSTAGE_END : Nat := 0x09
def oPREPARE : Nat := 0x0A
def oVOTE : Nat := 0x0B
def oARM : Nat := 0x0C
def oARM_ACK : Nat := 0x0D
def oABORT_MSG : Nat := 0x0E
def oRELEASED : Nat := 0x0F
def oEVENT : Nat := 0x10
def oRSP_RD : Nat := 0x18
def oRSP_WR : Nat := 0x19
def oRSP_MSG : Nat := 0x1A
def oPROBE : Nat := 0x1F

def cRSP : Nat := 0
def cTC : Nat := 1
def cCMT : Nat := 2
def cREQ : Nat := 3
def cMGT : Nat := 4

def stOK : Nat := 0x0
def stCORR : Nat := 0x1
def stDENIED : Nat := 0x2
def stDECODE : Nat := 0x3
def stOFF : Nat := 0x4
def stBUSY : Nat := 0x5
def stLONG : Nat := 0x6
def stPOISON : Nat := 0x7
def stSTUCK : Nat := 0x8
def stABORT : Nat := 0x9
def stUNREACH : Nat := 0xA
def stLOCKED : Nat := 0xB

def isResponse (o : Nat) : Bool := o == oRSP_RD || o == oRSP_WR || o == oRSP_MSG
def isCommitOp (o : Nat) : Bool := decide (0x08 ≤ o) && decide (o ≤ 0x0F)
/-- Opcodes that a response answers (R37). -/
def nonPosted (o : Nat) : Bool := [oRD, oWR, oADD, oSWAP, oMSG, oPROBE].contains o
def isWrite (o : Nat) : Bool := [oWR, oWRP, oADD, oSWAP, oMSG].contains o
def legalOp (o : Nat) : Bool :=
  nonPosted o || o == oWRP || isCommitOp o || o == oEVENT || isResponse o

/-- Is class `c` permitted for opcode `o` (R37)? -/
def classFor (o c : Nat) : Bool :=
  if [oRD, oWR, oWRP, oMSG].contains o then c == cTC || c == cREQ || c == cMGT
  else if o == oADD || o == oSWAP then c == cREQ || c == cMGT
  else if isCommitOp o then c == cCMT
  else if o == oEVENT || o == oPROBE then c == cMGT
  else if isResponse o then c == cRSP
  else false

/-- May the unit behind NI `i` present opcode `o` (R37; 09 R287)? NI 206 is the CSQ, 192-199 the frame-store banks; VOTE, ARM_ACK and
RELEASED are the NI's own, and EVENT is sent by the NI of an event's source. -/
def maySend (i o : Nat) : Bool :=
  if o == oPROBE then i == 204 || i == 215 || isHostPort i
  else if o == oSTAGE || o == oSTAGE_END then (decide (192 ≤ i) && decide (i < 200)) || isHostPort i
  else if o == oPREPARE || o == oARM || o == oABORT_MSG then i == 206
  else if o == oEVENT then !(isHostPort i || isLoopNi i)
  else [oRD, oWR, oWRP, oADD, oSWAP, oMSG].contains o

/-- Data flits of a packet (R37, R38, R40). `st` is a response's status. -/
def dataFlitCount (o len st : Nat) : Nat :=
  if [oWR, oWRP, oMSG, oSTAGE].contains o then ceilDiv (len + 1) 16
  else if [oADD, oSWAP, oSTAGE_END, oPREPARE, oVOTE, oRELEASED, oEVENT].contains o then 1
  else if o == oRSP_RD ∧ (st = stOK ∨ st = stCORR ∨ st = stPOISON) then ceilDiv (len + 1) 16
  else 0

/-- The opcode of the response to a request (R37). -/
def rspOp (o : Nat) : Nat :=
  if o == oRD || o == oADD || o == oSWAP then oRSP_RD else if o == oWR then oRSP_WR else oRSP_MSG

/-! ### Headers (R33, R34) -/

def Packet.headNat (p : Packet) : Nat :=
  (p.stamp % 2 ^ 32) * 2 ^ 96 + (p.mid % 2 ^ 48) * 2 ^ 48 + (p.dst % 2 ^ 9) * 2 ^ 39 + (p.src % 2 ^ 9) * 2 ^ 30 +
  (p.opc % 2 ^ 5) * 2 ^ 25 + (p.cls % 2 ^ 3) * 2 ^ 22 + (p.qos % 2 ^ 4) * 2 ^ 18 + (p.len % 2 ^ 8) * 2 ^ 10 +
  (p.tag % 2 ^ 9) * 2 + p.rep % 2

def Packet.head (p : Packet) : BitVec 128 := BitVec.ofNat 128 p.headNat

/-- Read a head flit's payload. -/
def packetOf (h : BitVec 128) : Packet :=
  let n := h.toNat
  { stamp := bitsOf n 96 32, mid := bitsOf n 48 48, dst := bitsOf n 39 9, src := bitsOf n 30 9, opc := bitsOf n 25 5,
    cls := bitsOf n 22 3, qos := bitsOf n 18 4, len := bitsOf n 10 8, tag := bitsOf n 1 9, rep := bitsOf n 0 1 }

/-- Is the request for the endpoint itself, in its window (09 R288; 02 R36)? -/
def Packet.forEndpoint (p : Packet) : Bool :=
  [oRD, oWR, oWRP, oADD, oSWAP, oMSG].contains p.opc && (match area p.mid with | .window _ _ => true | _ => false)

/-- ADDR of a request; of a commit opcode, CSEQ [47:32], FIRST [19:4], SLOT [1:0] (R40). -/
def Packet.addr (p : Packet) : Nat := p.mid
def Packet.cseq (p : Packet) : Nat := bitsOf p.mid 32 16
def Packet.first (p : Packet) : Nat := bitsOf p.mid 4 16
def Packet.slot (p : Packet) : Nat := bitsOf p.mid 0 2
/-- STATUS of a response. -/
def Packet.status (p : Packet) : Nat := bitsOf p.mid 0 4
def Packet.reqStamp (p : Packet) : Nat := bitsOf p.mid 16 32
def commitAddr (cseq first slot : Nat) : Nat := cseq % 2 ^ 16 * 2 ^ 32 + first % 2 ^ 16 * 2 ^ 4 + slot % 4

/-! ### Data flits (R41) -/

/-- Bytes in data flits of 16, zero above the last byte. -/
def packData (bytes : List Byte) (n : Nat) : List (BitVec 128 × Bool) :=
  (List.range n).map (fun j => (BitVec.ofNat 128 (leNat (sliceBytes bytes (16 * j) 16)), false))

/-- The `len` bytes that a packet's data flits carry. -/
def Packet.bytes (p : Packet) (len : Nat) : List Byte :=
  sliceBytes (p.flits.flatMap (fun f => leBytes 16 f.1.toNat)) 0 len

def Packet.poisoned (p : Packet) : Bool := p.flits.any (fun f => f.2)

/-- Data beats of `w` bytes: beat b carries bytes w · b on, byte i at bits [8 · i + 7 : 8 · i] (09 R278, R286). -/
def dataBeats (w : Nat) (bytes : List Byte) : List Nat :=
  (List.range (ceilDiv bytes.length w)).map (fun b => leNat (sliceBytes bytes (w * b) w))

/-- Bytes in a data beat of NI `i`'s port: 32 at a host port, 8 elsewhere. -/
def beatWidth (i : Nat) : Nat := if isHostPort i then 32 else 8

/-! ### Flits (R22, R23) -/

def tHEAD : Nat := 0
def tBODY : Nat := 1
def tTAIL : Nat := 2
def tSINGLE : Nat := 3

def mkFlit (payload : BitVec 128) (ty vc : Nat) (poison : Bool) : Flit :=
  BitVec.ofNat 135 (payload.toNat + ty % 4 * 2 ^ 128 + vc % 16 * 2 ^ 130 + b2n poison * 2 ^ 134)

def Flit.payload (f : Flit) : BitVec 128 := BitVec.ofNat 128 f.toNat
def Flit.ty (f : Flit) : Nat := bitsOf f.toNat 128 2
def Flit.vc (f : Flit) : Nat := bitsOf f.toNat 130 4
def Flit.poison (f : Flit) : Bool := f.toNat.testBit 134
def Flit.isHead (f : Flit) : Bool := Flit.ty f == tHEAD || Flit.ty f == tSINGLE
def Flit.isLast (f : Flit) : Bool := Flit.ty f == tTAIL || Flit.ty f == tSINGLE
def Flit.onVc (f : Flit) (v : Nat) : Flit := BitVec.ofNat 135 (putBits f.toNat 130 4 v)
def Flit.setPoison (f : Flit) : Flit := BitVec.ofNat 135 (putBits f.toNat 134 1 1)

/-- The flit sequence of a packet on one VC (R23). -/
def Packet.toFlits (p : Packet) (vc : Nat) : List Flit :=
  let n := p.flits.length
  if n = 0 then [mkFlit p.head tSINGLE vc false]
  else mkFlit p.head tHEAD vc false ::
    (p.flits.zipIdx.map (fun q => mkFlit q.1.1 (if q.2 + 1 = n then tTAIL else tBODY) vc q.1.2))

/-- A packet from its flits, head first. -/
def packetFrom : List Flit → Packet
  | [] => { dst := 0, src := 0, opc := 0, cls := 0, len := 0 }
  | h :: ds => { packetOf (Flit.payload h) with flits := ds.map (fun f => (Flit.payload f, Flit.poison f)) }

/-! ### Virtual channels (R54) -/

def normalVc (cls : Nat) : Nat := if cls = cRSP then 0 else cls + 2
def escapeVc (cls rep : Nat) : Nat := (if cls = cRSP then 1 else 7) + rep % 2
def isEscapeVc (v : Nat) : Bool := v == 1 || v == 2 || v == 7 || v == 8

/-! ### CRCs -/

/-- `k` steps of a reflected CRC. -/
def crcBits (poly : Nat) : Nat → Nat → Nat
  | 0, c => c
  | k + 1, c => crcBits poly k (if c % 2 = 1 then (c / 2) ^^^ poly else c / 2)

/-- A reflected CRC register after `bytes`. -/
def crcReg (poly init : Nat) (bytes : List Byte) : Nat :=
  bytes.foldl (fun c b => crcBits poly 8 (c ^^^ b.toNat)) init

/-- CRC-64 of R45: polynomial 0x42F0_E1EB_A9EA_3693 reflected, initial value and final XOR all ones. -/
def crc64Of (bytes : List Byte) : Nat := crcReg 0xC96C5795D7870F42 0xFFFFFFFFFFFFFFFF bytes ^^^ 0xFFFFFFFFFFFFFFFF

/-- CRC-32C of R475: polynomial 0x1EDC_6F41 reflected, initial value and final XOR all ones. -/
def crc32cOf (bytes : List Byte) : Nat := crcReg 0x82F63B78 0xFFFFFFFF bytes ^^^ 0xFFFFFFFF

/-- CRC-4 of R137: x⁴ + x + 1, initial value 0, over `k` bits of `n` sent most significant first. -/
def crc4Of (n : Nat) : Nat → Nat → Nat
  | 0, c => c
  | k + 1, c =>
    let top := c / 8 % 2
    let c' := c * 2 % 16
    crc4Of n k (if (top + n / 2 ^ k) % 2 = 1 then c' ^^^ 3 else c')

/-- CRC-64 of staged entries in ascending index (R45). -/
def entriesCrc (es : List (BitVec 64)) : Nat := crc64Of (es.flatMap (fun e => leBytes 8 e.toNat))

end Sys2Proof.Machine
end

