-- ==== Sys2Proof/Machine/Codes.lean ====
section
/-! DEFINITION. The codes of stored words: what a code makes of wrong bits, an armed MM_FLIPMASK, and the flits held in node input
buffers (11 R329-R336, R345, R544). -/
namespace Sys2Proof.Machine

/-- The source of a region's memory events (12 R358). -/
def memSource (r : Nat) : Nat :=
  if r < 8 then srcFs r 1 else if r < 11 then srcMM (r - 8) else if r < 13 then srcMM 3 else if r = 13 then srcMM 4
  else if r < 30 then srcMM 5 else srcMM 6

def Block.liveCode (b : Block) (r : Nat) : Nat := b.g pgMM (MM_REGION_LIVE r)

/-- Check bits of a code (R330): 0 DEC-TED, 1 SEC-DED, 2 PARITY. -/
def codeBits (c : Nat) : Nat := if c = 0 then 17 else if c = 1 then 9 else 2

/-! ### The check of a word (R330, R335, R544) -/

/-- What a code makes of a stored word whose wrong bits are `flips`. `wrong k` is a miscorrection at bit k. -/
inductive Check where
  | good
  | unseen
  | corrected
  | wrong (k : Nat)
  | detected
deriving DecidableEq, Repr

/-- Wrong bits in half `h` of a PARITY word, its own parity bit included. -/
def halfErrors (flips : List Nat) (h : Nat) : Nat :=
  (flips.filter (fun p => p / 64 == h && decide (p < 128) || p == 128 + h)).length

/-- Check a word; `x` decides where R544 leaves the result open. -/
def checkWord (code : Nat) (flips : List Nat) (x : Nat) : Check :=
  let n := flips.length
  let beyond : Check := match x % 3 with | 0 => .unseen | 1 => .wrong (x / 3 % 128) | _ => .detected
  if n = 0 then .good
  else if code = 0 then (if n ≤ 2 then .corrected else if n = 3 then .detected else beyond)
  else if code = 1 then (if n = 1 then .corrected else if n = 2 then .detected else beyond)
  else if halfErrors flips 0 % 2 = 1 ∨ halfErrors flips 1 % 2 = 1 then .detected else beyond

/-- Does R544 leave the check open? -/
def checkOpen (code : Nat) (flips : List Nat) : Bool :=
  checkWord code flips 0 != checkWord code flips 2

/-! ### MM_FLIPMASK (R345) -/

def wordOf (a : Nat) : Nat := a / 16 * 16

-- DEDUCED (notes/assumptions/19.md)
/-- The bits that an armed MM_FLIPMASK inverts in the word about to be stored to region `r` (R345). -/
def Block.takeFlips (b : Block) (r a : Nat) : List Nat × Block :=
  if b.on pgMM MM_FLIPMASK_ARM && b.g pgMM MM_FLIPMASK_REGION == r && decide (r < 31) then
    let ok (p : Nat) : Bool := decide (p < 128 + codeBits (b.liveCode r))
    let ps := [b.g pgMM MM_FLIPMASK_POS0, b.g pgMM MM_FLIPMASK_POS1, b.g pgMM MM_FLIPMASK_POS2]
    ((ps.filter ok).eraseDups,
     ((b.s pgMM MM_FLIPMASK_ARM 0).s pgMM MM_FLIPMASK_DONE 1).s64 pgMM MM_FLIP_ADDR (wordOf a))
  else ([], b)

/-! ### Node input buffers, region 30 (R329, R336) -/

/-- A flit with the data bits among `flips` inverted. -/
def flipPayload (f : Flit) (flips : List Nat) : Flit :=
  flips.foldl (fun f p => if p < 128 then f ^^^ BitVec.ofNat 135 (2 ^ p) else f) f

-- DEDUCED (notes/assumptions/95.md)
/-- A flit as it leaves its buffer: what is read, and whether the code found an error that it cannot correct. -/
def Block.readFlit (b : Block) (f : Flit) (flips : List Nat) : Flit × Bool × Block :=
  let code := b.liveCode 30
  let x := b.fresh
  let b := if checkOpen code flips then x.2 else b
  let counted (b : Block) : Block := (b.bump pgMM MM_COUNTS_CE).raise (memSource 30) clMEMCE 0 30
  match checkWord code flips x.1 with
  | .good => (f, false, b)
  | .unseen => (flipPayload f flips, false, b)
  | .corrected => (f, false, counted b)
  | .wrong k => (flipPayload f (k :: flips), false, counted b)
  | .detected => (flipPayload f flips, true, b)

end Sys2Proof.Machine
end

