-- ==== Sys2Proof/Machine/Peristome.lean ====
section
/-! DEFINITION. The access check of a target: master groups, node windows, NI regions, locks (10 R303-R315). -/
namespace Sys2Proof.Machine

/-! ### Life-cycle codes (16 R485) -/

def lcBLANK : Nat := 0x00
def lcBUILD : Nat := 0x0F
def lcSEAL : Nat := 0x33
def lcSERVICE : Nat := 0x55
def lcRETURN : Nat := 0x96
def lcEND : Nat := 0xFF

/-- The master group of a source, by the live map (R306). -/
def Block.group (b : Block) (src : Nat) : Nat :=
  if src = 204 then 14 else if src = 0x1FF then 15 else b.gl pgGT (GT_MG_MAP src)

/-- The active rule set of NI `i`: 0 A, 1 B (R317). -/
def Block.activeSet (b : Block) (i : Nat) : Nat := b2n (b.bitAt pgGT 0x060 i)

/-- Must the read mask, the write mask grant (R305)? -/
def needsRead (o : Nat) : Bool := o == oRD || o == oADD || o == oSWAP
def needsWrite (o : Nat) : Bool := o != oRD

/-- Do a 16-bit read mask and write mask grant group `g` for opcode `o`? -/
def masksGrant (o g rd wr : Nat) : Bool := (!needsRead o || bit rd g) && (!needsWrite o || bit wr g)

/-- Does a node window contain byte `a` (R308)? -/
def Window.contains (w : Window) (a : Nat) : Bool :=
  let lg := clamp 12 48 (bitsOf w.w1.toNat 8 6)
  let base := (w.w0.toNat + bitsOf w.w1.toNat 0 4 * 2 ^ 32) * 2 ^ 12
  bit w.w1.toNat 14 && base / 2 ^ lg == a / 2 ^ lg

def Window.grants (w : Window) (o g a : Nat) : Bool :=
  w.contains a && masksGrant o g (bitsOf w.w2.toNat 0 16) (bitsOf w.w2.toNat 16 16)

/-- Window `k` of set `s` in node `n`. -/
def Block.window (b : Block) (n s k : Nat) : Window := AMap.get {} (b.node n).windows (8 * s + k)

def Block.windowsGrant (b : Block) (n s o g a : Nat) : Bool :=
  (List.range 8).any (fun k => (b.window n s k).grants o g a)

/-- An NI region as its four words hold it (R310, R324). -/
structure Region where
  base : Nat
  units : Nat
  rd : Nat
  wr : Nat
  en : Bool
  locked : Bool
  key : Bool
  sub : Nat

def Block.region (b : Block) (i s r : Nat) : Region :=
  let o := NI_RGN s r
  let w1 := (b.rd (pgNi i) (o + 4)).toNat
  let w2 := (b.rd (pgNi i) (o + 8)).toNat
  let w3 := (b.rd (pgNi i) (o + 12)).toNat
  { base := ((b.rd (pgNi i) o).toNat + bitsOf w1 0 5 * 2 ^ 32) * 2 ^ 11, units := bitsOf w1 8 21 + 1,
    rd := bitsOf w2 0 16, wr := bitsOf w2 16 16, en := bit w3 0, locked := bit w3 1, key := bit w3 2, sub := bitsOf w3 8 8 }

/-- Does the whole region contain byte `a`? It ends at the top of the address space at the latest (R310). -/
def Region.contains (r : Region) (a : Nat) : Bool :=
  r.en && decide (r.base ≤ a) && decide (a < min (r.base + 2048 * r.units) (2 ^ 48))

def Region.grants (r : Region) (o g a : Nat) : Bool :=
  r.contains a && bit r.sub ((a - r.base) / (256 * r.units)) && masksGrant o g r.rd r.wr

def Block.regionsGrant (b : Block) (i s o g a : Nat) : Bool :=
  (List.range 16).any (fun r => (b.region i s r).grants o g a)

/-- Does a lock apply to an access in life-cycle state `lc` (R315)? `outside` is MG15 or the service port. -/
def lockApplies (lc : Nat) (outside key : Bool) : Bool :=
  if outside then !(lc == lcBUILD || lc == lcRETURN) else key && lc == lcSERVICE

def Block.lockedAt (b : Block) (i s : Nat) (outside : Bool) (a : Nat) : Bool :=
  (List.range 16).any (fun k =>
    let r := b.region i s k
    r.contains a && r.locked && lockApplies b.lcState outside r.key)

/-- The ledger's key region (R247; 16 R473). -/
def inKeyRegion (a : Nat) : Bool := decide (ledgerAddr + 0x3FB000 ≤ a) && decide (a < ledgerAddr + 0x3FC000)

/-- The verdict of NI `i`'s peristome with rule set `s` on an access of group `g` from byte `a` to byte `z`, delivered by
node `n` if by the fabric (R312, R313, R314): OK, DENIED or LOCKED. -/
def Block.verdict (b : Block) (i s : Nat) (n : Option Nat) (g : Nat) (outside : Bool) (o a z : Nat) : Nat :=
  if inKeyRegion a || inKeyRegion z then stLOCKED
  else if b.lockedAt i s outside a || b.lockedAt i s outside z then stLOCKED
  else if (match n with | some n => !(b.windowsGrant n s o g a && b.windowsGrant n s o g z) | none => false) then stDENIED
  else if !(b.regionsGrant i s o g a && b.regionsGrant i s o g z) then stDENIED
  else stOK

/-! ### Counter pages (15 R452), and the verdict on a head (R304) -/

def isCounterPage (p : Nat) : Bool := decide (0x400 ≤ p) && (kindOf p).isSome

-- DEDUCED (notes/assumptions/13.md)
/-- May group `g` reach counter page `p` (15 R452)? -/
def Block.counterOpen (b : Block) (p g : Nat) (wr : Bool) : Bool :=
  let k := if p < 0x500 then p - 0x400 else 128 + (p - 0x500)
  g == 0 || g == 14 || (!wr && (g == 15 || b.bitAt pgPR 0x080 k))

/-- The peristome of NI `i`, and the check of a counter page behind it (10 R312; 15 R452). -/
def Block.accessVerdict (b : Block) (i : Nat) (n : Option Nat) (g : Nat) (outside : Bool) (o a len : Nat) : Nat :=
  let v := b.verdict i (b.activeSet i) n g outside o a (a + len)
  if v ≠ stOK then v
  else
    match area a with
    | .page p _ => if isCounterPage p && !b.counterOpen p g (needsWrite o) then stDENIED else stOK
    | _ => stOK

/-- The verdict on a packet that the fabric delivers to NI `i`, when its head is decoded. -/
def Block.packetVerdict (b : Block) (i : Nat) (p : Packet) : Nat :=
  b.accessVerdict i ((place i p.via).map (fun q => q.1)) (b.group p.src) (p.src == 0x1FF) p.opc p.addr p.len

end Sys2Proof.Machine
end

