-- ==== Sys2Proof/Machine/Nodes.lean ====
section
/-! DEFINITION. Nodes and links: buffers, routes, output ports, injection links, and where each output's time goes
(02 R22-R31; 03 R54-R63; 04 R92-R98; 15 R453). -/
namespace Sys2Proof.Machine

/-! ### Ends of a link -/

/-- The output end that drives the input end `r`. -/
def upstream : Port → Option Port
  | .node n p => if p < 4 then (neighbour n p).map (fun m => .node m (opposite p))
                 else (localNi n (p - 4)).map (fun q => .ni q.1 q.2)
  | .ni i a => (place i a).map (fun q => .node q.1 (4 + q.2))

/-- The input end that the output end `s` drives. -/
def downstream : Port → Option Port
  | .node n p => if p < 4 then (neighbour n p).map (fun m => .node m (opposite p))
                 else (localNi n (p - 4)).map (fun q => .ni q.1 q.2)
  | .ni i a => (place i a).map (fun q => .node q.1 (4 + q.2))

def Block.out (b : Block) : Port → OutPort
  | .node n p => AMap.get {} (b.node n).outp p
  | .ni i a => AMap.get {} (b.ni i).inj a

def Block.setOut (b : Block) (s : Port) (o : OutPort) : Block :=
  match s with
  | .node n p => b.modNode n (fun v => { v with outp := AMap.set {} v.outp p o })
  | .ni i a => b.modNi i (fun v => { v with inj := AMap.set {} v.inj a o })

def Block.modOut (b : Block) (s : Port) (f : OutPort → OutPort) : Block := b.setOut s (f (b.out s))

/-- Credits on VC `v` of an output, 4 after reset (R31). -/
def OutPort.credit (o : OutPort) (v : Nat) : Nat := AMap.get 4 o.credits v
def OutPort.setCredit (o : OutPort) (v c : Nat) : OutPort := { o with credits := AMap.set 4 o.credits v c }
def OutPort.holder (o : OutPort) (v : Nat) : Option (Nat × Nat) := AMap.get none o.held v
def OutPort.setHolder (o : OutPort) (v : Nat) (h : Option (Nat × Nat)) : OutPort :=
  { o with held := AMap.set none o.held v h }

def vcKey (q v : Nat) : Nat := 16 * q + v

/-- Credits that the receiving end owes its sender: flits that have left the buffer and whose credit-return wire has not
yet toggled (R31). -/
def Block.owedAt (b : Block) (r : Port) (v : Nat) : Nat :=
  match r with
  | .node n p => AMap.get 0 (b.node n).owed (vcKey p v)
  | .ni i a => AMap.get 0 (b.ni i).owed (vcKey a v)

def Block.addOwed (b : Block) (r : Port) (v k : Nat) : Block :=
  match r with
  | .node n p => b.modNode n (fun x => { x with owed := AMap.set 0 x.owed (vcKey p v) (AMap.get 0 x.owed (vcKey p v) + k) })
  | .ni i a => b.modNi i (fun x => { x with owed := AMap.set 0 x.owed (vcKey a v) (AMap.get 0 x.owed (vcKey a v) + k) })

def Block.takeOwed (b : Block) (r : Port) (v : Nat) : Block :=
  match r with
  | .node n p => b.modNode n (fun x => { x with owed := AMap.set 0 x.owed (vcKey p v) (AMap.get 0 x.owed (vcKey p v) - 1) })
  | .ni i a => b.modNi i (fun x => { x with owed := AMap.set 0 x.owed (vcKey a v) (AMap.get 0 x.owed (vcKey a v) - 1) })

def Block.buf (b : Block) (n q v : Nat) : VcBuf := AMap.get {} (b.node n).inb (vcKey q v)
def Block.setBuf (b : Block) (n q v : Nat) (x : VcBuf) : Block :=
  b.modNode n (fun y => { y with inb := AMap.set {} y.inb (vcKey q v) x })

/-- Is port `p` of node `n` enabled in NODE_LINK (R87)? -/
def Block.portOn (b : Block) (n p : Nat) : Bool :=
  if p < 4 then bit (b.g (pgNode n) NODE_LINK_ENABLE) p else bit (b.g (pgNode n) NODE_LINK_LOCAL_EN) (p - 4)

/-! ### Routes -/

/-- The port code that node `n` uses for a destination in an epoch (R57, R58, R545): 7 is NONE. -/
def Block.routeCode (b : Block) (n rep dst : Nat) (esc : Bool) : Nat :=
  let i := if dst < 216 then dst else if dst = 0x1FF then 216 else 256
  if 216 < i ∨ (b.node n).badRt.contains (256 * rep + i) then 7
  else
    let c := b.g (pgNode n) (if esc then NODE_RT_EPORT rep i else NODE_RT_NPORT rep i)
    if portExists n c && b.portOn n c then c else 7

/-- The key of NODE_ESC[e] in `Node.badRt`. -/
def escKey (e : Nat) : Nat := 256 * e + 220

def Block.nodeLive (b : Block) (n e : Nat) : Bool := bit (b.g (pgNode n) NODE_EPOCH_LIVE) e
def Block.nodeCur (b : Block) (n : Nat) : Nat := b.g (pgNode n) NODE_EPOCH_CUR

/-- A node counts a discarded packet of an epoch (R70, R88). -/
def Block.countDiscard (b : Block) (n rep : Nat) : Block := b.bump (pgNode n) (NODE_DISCARD (rep % 2))

/-- The flits of the first packet in a buffer, and the rest; `true` if its last flit is among them. -/
def splitPacket : List (Flit × List Nat) → List (Flit × List Nat) × List (Flit × List Nat) × Bool
  | [] => ([], [], false)
  | f :: fs =>
    if Flit.isLast f.1 then ([f], fs, true)
    else
      let r := splitPacket fs
      (f :: r.1, r.2.1, r.2.2)

/-- Discard the packet at the front of an input VC through its tail and return its credits (R59). -/
def Block.dropFront (b : Block) (n q v : Nat) : Block :=
  let x := b.buf n q v
  let s := splitPacket x.flits
  let rx := if s.2.2 then x.rx else x.rx.map (fun r => { r with discard := true })
  (b.setBuf n q v { x with flits := s.2.1, front := none, rx := rx }).addOwed (.node n q) v s.1.length

/-- A packet at the front of an input VC is discarded, counted, and reported by an event of the node at level `lvl`. -/
def Block.dropCounted (b : Block) (n q v rep lvl : Nat) : Block :=
  ((b.dropFront n q v).countDiscard n rep).raise (srcNode n 1) clNODE lvl

/-- Read the route of the head at the front of an input VC, or discard its packet (R59, R62, R545). `fl` holds the wrong bits of its
stored word (11 R336). -/
def Block.routeHead (b : Block) (n q v : Nat) (f : Flit) (fl : List Nat) : Block :=
  let r := b.readFlit f fl
  let p := packetOf (Flit.payload r.1)
  if r.2.1 then r.2.2.dropCounted n q v p.rep 1
  else
    let b := r.2.2
    let x := b.buf n q v
    let b := if fl = [] then b else b.setBuf n q v { x with flits := (r.1, []) :: x.flits.drop 1 }
    let onEsc := isEscapeVc v
    let np := b.routeCode n p.rep p.dst false
    let ep := b.routeCode n p.rep p.dst true
    let use := if onEsc then (if (b.node n).badRt.contains (escKey p.rep) then 7 else ep) else np
    let pg := pgNode n
    if use = 7 ∨ b.nodeLive n p.rep = false then (b.s pg NODE_EPOCH_NO_ROUTE 1).dropCounted n q v p.rep 2
    else if onEsc && b.g pg (NODE_ESC_PARENT p.rep) == q && ep == q && decide (q < 4) then
      (b.s pg NODE_EPOCH_ESC_ORDER 1).dropCounted n q v p.rep 2
    else
      b.setBuf n q v { b.buf n q v with
        front := some { cls := p.cls, rep := p.rep, dst := p.dst, nport := np, eport := ep, onEsc := onEsc,
                        since := b.elapsed, escWait := b.g pg NODE_EPOCH_ESC_WAIT } }

/-- Route the heads that have come to the front of an input VC, at most `fuel` of them. -/
def Block.routeVc : Nat → Nat → Nat → Nat → Block → Block
  | 0, _, _, _, b => b
  | fuel + 1, n, q, v, b =>
    let x := b.buf n q v
    match x.front, x.flits with
    | none, f :: _ => Block.routeVc fuel n q v (b.routeHead n q v f.1 f.2)
    | _, _ => b

/-- Free what a started packet of input VC (q, v) holds at its output. -/
def Block.releaseFront (b : Block) (n q v : Nat) : Block :=
  match (b.buf n q v).front with
  | none => b
  | some f =>
    if f.started then
      let esc := f.onEsc || f.toEsc
      let ov := if esc then escapeVc f.cls f.rep else normalVc f.cls
      b.modOut (.node n (if esc then f.eport else f.nport)) (fun o =>
        let o := if o.holder ov = some (q, v) then o.setHolder ov none else o
        if o.owner = some (q, v) then { o with owner := none } else o)
    else b

/-! ### Candidates (R92) -/

/-- The output port and VC that a started packet uses. -/
def Front.viaEsc (f : Front) : Bool := f.onEsc || f.toEsc
def Front.outP (f : Front) : Nat := if f.viaEsc then f.eport else f.nport
def Front.outV (f : Front) : Nat := if f.viaEsc then escapeVc f.cls f.rep else normalVc f.cls

/-- A candidate for an output: its input, VC, epoch, class, whether it is a head, on an escape VC, aged, and whether it
would take the escape VC now. -/
structure Cand where
  q : Nat
  v : Nat
  rep : Nat
  cls : Nat
  isHead : Bool
  onEsc : Bool
  aged : Bool
  takeEsc : Bool

/-- May a head take output VC `v` of `o`, but for its credit? -/
def OutPort.vcFree (o : OutPort) (v : Nat) : Bool := (o.holder v).isNone

/-- The candidate that input VC (q, v) offers to output `p` of node `n`, if any (R92, R63). -/
def Block.candidate (b : Block) (n p q v : Nat) : Option Cand :=
  let x := b.buf n q v
  match x.front with
  | none => none
  | some f =>
    let o := b.out (.node n p)
    if !b.portOn n p then none
    else if f.started then
      if f.outP = p ∧ x.flits ≠ [] ∧ 0 < o.credit f.outV then
        some { q, v, rep := f.rep, cls := f.cls, isHead := false, onEsc := f.onEsc, aged := false, takeEsc := f.toEsc }
      else none
    else
      let nv := normalVc f.cls
      let ev := escapeVc f.cls f.rep
      if !f.onEsc && f.nport == p && o.vcFree nv && decide (0 < o.credit nv) then
        some { q, v, rep := f.rep, cls := f.cls, isHead := true, onEsc := false, aged := f.aged, takeEsc := false }
      else if (f.onEsc || f.mayEsc) && f.eport == p && o.vcFree ev && decide (0 < o.credit ev) then
        some { q, v, rep := f.rep, cls := f.cls, isHead := true, onEsc := f.onEsc, aged := f.aged, takeEsc := !f.onEsc }
      else none

def inputVcs : List (Nat × Nat) := (List.range 7).flatMap (fun q => (List.range 9).map (fun v => (q, v)))

def Block.candidates (b : Block) (n p : Nat) : List Cand := inputVcs.filterMap (fun e => b.candidate n p e.1 e.2)

-- DESIGN CHOICE (notes/assumptions/94.md)
/-- Refresh since when each waiting head of a node has been a candidate of some output without a break (R97). -/
def Block.refreshCand (b : Block) (n : Nat) : Block :=
  inputVcs.foldl (fun b e =>
    let x := b.buf n e.1 e.2
    match x.front with
    | none => b
    | some f =>
      let is := (b.candidate n f.nport e.1 e.2).isSome || (b.candidate n f.eport e.1 e.2).isSome
      let c := if is then (match f.cand with | some t => some t | none => some b.elapsed) else none
      b.setBuf n e.1 e.2 { x with front := some { f with cand := c } }) b

/-! ### Ranking (R93, R94, R99-R101) -/

/-- The live profile of output `p` of node `n` now, by the node's own cell, as its RANK byte (R101). -/
def Block.profile (b : Block) (n p : Nat) : Nat :=
  let t := b.cellNow n / 4096 % 64
  b.gl (pgNode n) (NODE_ARB_PROFILE_RANKS (b.gl (pgNode n) (NODE_SLOT_ENTRY p t)))

/-- The place of a request-type class in a RANK byte: 0 first. -/
def rankIn (ranks cls : Nat) : Nat := (List.range 4).findIdx (fun i => bitsOf ranks (2 * i) 2 + 1 == cls)

/-- May `o` grant an aged head now: at most one in any 256 ns (R97)? -/
def Block.agedOk (b : Block) (o : OutPort) : Bool :=
  match o.lastAged with | some t => decide (t + 65536 ≤ b.elapsed) | none => true

def agedClass : Nat := 8

-- DESIGN CHOICE (notes/assumptions/94.md)
/-- A class's rotation over the inputs of an output, the highest place first; after reset in the order of their port codes. -/
def OutPort.rotation (o : OutPort) (c : Nat) : List Nat := AMap.get (List.range 7) o.rot c

/-- Is the candidate an aged head, or may it be granted with the guard of 256 ns (R97)? -/
def Cand.isAged (c : Cand) : Bool := c.aged && c.isHead && c.cls != cRSP
def Block.grantable (b : Block) (o : OutPort) (c : Cand) : Bool := !c.isAged || b.agedOk o

-- DESIGN CHOICE (notes/assumptions/94.md)
/-- The rotation class and rank of a candidate: lower ranks go first (R93, R94). Packets in progress of one class, among which the
spec names no order, take the order of that class's rotation, an escape VC first. -/
def Block.candRank (cur ranks : Nat) (o : OutPort) (c : Cand) : Nat × Nat :=
  let cls := if c.isAged then agedClass else c.cls
  let primary := if c.cls = cRSP then 0 else if c.isAged then 1 else 2 + rankIn ranks c.cls
  let esc := if c.onEsc then (if c.rep ≠ cur then 0 else 1) else 2
  (cls, ((primary * 2 + b2n c.isHead) * 8 + (o.rotation cls).idxOf c.q) * 4 + esc)

-- DESIGN CHOICE (notes/assumptions/94.md)
/-- The best of the candidates. Two of one rank, aged heads of one input, go in the order of their VCs. -/
def bestCand (rank : Cand → Nat) : List Cand → Option Cand
  | [] => none
  | c :: cs =>
    match bestCand rank cs with
    | none => some c
    | some d => if rank c ≤ rank d then some c else some d

/-! ### Sending -/

/-- Drive the next flit of the owner of a node output, or let the owner stop (R95). -/
def Block.driveNode (b : Block) (n p : Nat) : Block :=
  let s := Port.node n p
  let o := b.out s
  match o.driven, o.owner with
  | none, some (q, v) =>
    let x := b.buf n q v
    match x.front, x.flits with
    | some f, held :: rest =>
      if b.portOn n p && decide (0 < o.credit f.outV) then
        let r := b.readFlit held.1 held.2
        let b := r.2.2
        if r.2.1 && Flit.isHead held.1 then Block.routeVc 5 n q v ((b.releaseFront n q v).dropCounted n q v f.rep 1) else
        let fl := if r.2.1 then Flit.setPoison r.1 else r.1
        let last := Flit.isLast fl
        let o := { (o.setCredit f.outV (o.credit f.outV - 1)) with
                   driven := some (Flit.onVc fl f.outV), drep := f.rep, owner := if last then none else o.owner }
        let o := if last then o.setHolder f.outV none else o
        let b := (b.setOut s o).setBuf n q v { x with flits := rest, front := if last then none else x.front }
        let b := b.addOwed (.node n q) v 1
        if last then b.routeVc 5 n q v else b
      else b.setOut s { o with owner := none }
    | _, _ => b.setOut s { o with owner := none }
  | _, _ => b

/-- Candidate `c` becomes the owner of output `p` of node `n`. `rotate` says that its input drops to the lowest place in the rotation of
class `cls` (R94); the head of a packet takes its output VC (R24). -/
def Block.takePort (b : Block) (n p : Nat) (c : Cand) (cls : Nat) (rotate : Bool) : Block :=
  let s := Port.node n p
  let o := b.out s
  let x := b.buf n c.q c.v
  let rot := if rotate then AMap.set (List.range 7) o.rot cls ((o.rotation cls).erase c.q ++ [c.q]) else o.rot
  let f := x.front.map (fun f => if c.isHead then { f with started := true, aged := false, toEsc := c.takeEsc } else f)
  let ov := (f.map Front.outV).getD 0
  let o := { o with owner := some (c.q, c.v), parked := some c.q, rot := rot,
                    lastAged := if cls = agedClass then some b.elapsed else o.lastAged }
  let o := if c.isHead then o.setHolder ov (some (c.q, c.v)) else o
  let b := (b.setOut s o).setBuf n c.q c.v { x with front := f }
  if c.isHead && c.takeEsc then b.count (pgCntNode n) 0x208 else b

/-- Choose the next owner of a node output (R93-R97). -/
def Block.arbNode (b : Block) (n p : Nat) : Block :=
  let o := b.out (.node n p)
  if o.owner.isSome then b
  else
    let rank := Block.candRank (b.nodeCur n) (b.profile n p) o
    match bestCand (fun c => (rank c).2) ((b.candidates n p).filter (b.grantable o)) with
    | none => b
    | some c => b.takePort n p c (rank c).1 c.isHead

-- DESIGN CHOICE (notes/assumptions/94.md)
/-- A head that has just come to the front of input VC (q, v) from the input on which its output is parked takes the port past the
allocator, if no other candidate is there; no rotation changes (R96). -/
def Block.parkedGrant (b : Block) (n q v : Nat) : Block :=
  match (b.buf n q v).front with
  | none => b
  | some f =>
    let p := if f.onEsc then f.eport else f.nport
    let o := b.out (.node n p)
    if f.started || o.owner.isSome || o.parked != some q then b
    else match b.candidates n p with
      | [c] => if c.q = q ∧ c.v = v ∧ c.isHead = true then b.takePort n p c c.cls false else b
      | _ => b

/-! ### Injection links (R98) -/

def Ni.queue (x : Ni) (c : Nat) : List Packet := AMap.get [] x.tx c
def Ni.rest (x : Ni) (a v : Nat) : List Flit := AMap.get [] x.injRest (vcKey a v)

/-- The attachment through which a unit injects a packet (R17). -/
def Block.attachFor (b : Block) (i : Nat) (p : Packet) : Nat :=
  if !dualHomed i then 0
  else
    let d := if p.dst = 0x1FF then 215 else p.dst
    let a := if dualHomed d then d % 2 else (match place d 0 with | some (n, _) => homeColumn n | none => 0)
    match place i a with
    | some (n, _) => if b.nodeLive n p.rep then a else 1 - a
    | none => a

/-- The node and output port that faces attachment `a` of NI `i`. -/
def facing (i a : Nat) : Nat × Nat := match place i a with | some (n, j) => (n, 4 + j) | none => (0, 4)

/-- The candidates of an injection link: heads of the class queues and packets in progress. -/
def Block.niCandidates (b : Block) (i a : Nat) : List Cand :=
  let x := b.ni i
  let o := b.out (.ni i a)
  (List.range 5).filterMap (fun c =>
    let v := normalVc c
    if x.rest a v ≠ [] then
      if 0 < o.credit v then
        some { q := 0, v, rep := 0, cls := c, isHead := false, onEsc := false, aged := false, takeEsc := false } else none
    else match x.queue c with
      | [] => none
      | p :: _ =>
        if b.attachFor i p = a ∧ o.vcFree v ∧ 0 < o.credit v then
          some { q := 0, v, rep := p.rep, cls := c, isHead := true, onEsc := false, aged := AMap.get false x.injAged c,
                 takeEsc := false }
        else none)

/-- Store a latency sample (15 R462, R463). -/
def Block.storeSample (b : Block) (i : Nat) (hdr : Nat) (issue status : Nat) : Block :=
  let pg := pgNi i
  let r := leBytes 16 hdr ++ leBytes 8 (stampAt issue) ++ leBytes 1 (issue % 256) ++ leBytes 1 status ++ leBytes 2 0 ++
    leBytes 4 (min 0xFFFFFFFF (b.cellNow (facing i 0).1 - issue))
  let stored := b.g pg NI_SAMPLE_STAT_STORED
  let next := b.g pg NI_SAMPLE_STAT_NEXT
  if b.on pg NI_SAMPLE_MODE = false ∧ 256 ≤ stored then b.cntNi i cSAMPLE_LOST
  else
    let b := b.modNi i (fun x => { x with samples := AMap.set [] x.samples next r })
    (b.s pg NI_SAMPLE_STAT_NEXT (next + 1)).s pg NI_SAMPLE_STAT_STORED (min 256 (stored + 1))

/-- The head of a packet leaves NI `i` by attachment `a`: INJ_STAMP is the instant, by the node's cell (R33), and the timer of a
non-posted request starts with the LIMIT in force (09 R273, R298). -/
def Block.stampHead (b : Block) (i a : Nat) (p : Packet) : Packet × Block :=
  let p := { p with stamp := b.cellHdr (facing i a).1 }
  let b := b.cntNi i (cINJ p.cls)
  let limit := max 1 (b.g (pgNi i) NI_RSP_TIMER_LIMIT) * 8000 * 256
  if nonPosted p.opc then
    (p, b.modNi i (fun x => { x with txns := x.txns.map (fun t =>
      if t.tag = p.tag then { t with pkt := p, issued := some b.elapsed, limit := limit } else t) }))
  else (p, b)

/-- Drive the next flit of the owner of an injection link, or let it stop. A head takes its stamp as it leaves. -/
def Block.driveNi (b : Block) (i a : Nat) : Block :=
  let s := Port.ni i a
  let o := b.out s
  match o.driven, o.owner with
  | none, some (_, v) =>
    match (b.ni i).rest a v with
    | [] => b.setOut s { o with owner := none }
    | fl :: rest =>
      if 0 < o.credit v then
        let last := Flit.isLast fl
        let r := match AMap.get none (b.ni i).injPkt (vcKey a v) with
          | some p => if Flit.isHead fl then (some (b.stampHead i a p).1, (b.stampHead i a p).2) else (some p, b)
          | none => (none, b)
        let pk := r.1
        let b := r.2
        let fl := match pk with
          | some p => if Flit.isHead fl then mkFlit p.head (Flit.ty fl) v false else fl
          | none => fl
        let o := { (o.setCredit v (o.credit v - 1)) with
                   driven := some fl, drep := (pk.map (fun p => p.rep)).getD 0, owner := if last then none else o.owner }
        let o := if last then o.setHolder v none else o
        let b := (b.setOut s o).modNi i (fun x =>
          { x with injRest := AMap.set [] x.injRest (vcKey a v) rest,
                   injPkt := AMap.set none x.injPkt (vcKey a v) (if last then none else pk) })
        match last, pk with
        | true, some p => (match p.issue with | some t => b.storeSample i p.headNat t stOK | none => b)
        | _, _ => b
      else b.setOut s { o with owner := none }
  | _, _ => b

/-- Refresh since when the head of each class queue of NI `i` has been a candidate without a break (R97, R98). -/
def Block.refreshInj (b : Block) (i : Nat) : Block :=
  let cs := b.niCandidates i 0 ++ b.niCandidates i 1
  b.modNi i (fun x => { x with injCand := (List.range 5).foldl (fun m c =>
    AMap.set none m c
      (if cs.any (fun d => d.cls == c && d.isHead) then some ((AMap.get none m c).getD b.elapsed) else none)) x.injCand })

/-- Choose the next owner of an injection link (R98): the slot table is that of the facing local output. -/
def Block.arbNi (b : Block) (i a : Nat) : Block :=
  let s := Port.ni i a
  let o := b.out s
  if o.owner.isSome then b
  else
    let fc := facing i a
    let rank := Block.candRank (b.nodeCur fc.1) (b.profile fc.1 fc.2) o
    match bestCand (fun c => (rank c).2) ((b.niCandidates i a).filter (b.grantable o)) with
    | none => b
    | some c =>
      let o := { o with owner := some (0, c.v), lastAged := if (rank c).1 = agedClass then some b.elapsed else o.lastAged }
      if !c.isHead then b.setOut s o
      else
        let b := b.setOut s (o.setHolder c.v (some (0, c.v)))
        match (b.ni i).queue c.cls with
        | [] => b
        | p :: ps =>
          b.modNi i (fun x =>
            { x with tx := AMap.set [] x.tx c.cls ps, injRest := AMap.set [] x.injRest (vcKey a c.v) (p.toFlits c.v),
                     injPkt := AMap.set none x.injPkt (vcKey a c.v) (some p),
                     injAged := AMap.set false x.injAged c.cls false, injCand := AMap.set none x.injCand c.cls none })

/-! ### Which epochs a node holds (R85, R88) -/

/-- Does a buffer hold a flit of epoch `e`? `cur` is the epoch of the packet that the next flit belongs to. -/
def bufHolds (e : Nat) : Nat → List (Flit × List Nat) → Bool
  | _, [] => false
  | cur, f :: fs =>
    let r := if Flit.isHead f.1 then (packetOf (Flit.payload f.1)).rep else cur
    r == e || bufHolds e r fs

def VcBuf.holds (x : VcBuf) (e : Nat) : Bool :=
  bufHolds e ((x.front.map (fun f => f.rep)).getD 0) x.flits

/-- Does node `n` hold a flit of epoch `e`, in a buffer or on an output that awaits its acknowledge (R88)? -/
def Block.nodeHolds (b : Block) (n e : Nat) : Bool :=
  (b.node n).inb.any (fun x => x.2.holds e) || (b.node n).outp.any (fun o => o.2.driven.isSome && o.2.drep == e)

/-- Is bank `e` of node `n` locked (R85)? -/
def Block.bankLocked (b : Block) (n e : Nat) : Bool :=
  b.nodeHolds n e || ((b.node n).bcast && b.nodeCur n == e)

/-! ### Time accounting (R453) -/

/-- Has some packet a flit ready for output `p` of node `n` and lacks only a credit? -/
def Block.lacksCredit (b : Block) (n p : Nat) : Bool :=
  let o := b.out (.node n p)
  b.portOn n p && inputVcs.any (fun e =>
    let x := b.buf n e.1 e.2
    match x.front with
    | none => false
    | some f =>
      if f.started then f.outP == p && x.flits ≠ [] && o.credit f.outV == 0
      else (!f.onEsc && f.nport == p && o.vcFree (normalVc f.cls) && o.credit (normalVc f.cls) == 0) ||
        ((f.onEsc || f.mayEsc) && f.eport == p && o.vcFree (escapeVc f.cls f.rep) && o.credit (escapeVc f.cls f.rep) == 0))

/-- The counter offset of the state of output `p`: DELIV_NS, WASTE_NS, SFRONT_NS or SBACK_NS. -/
def Block.portState (b : Block) (n p : Nat) : Nat :=
  let o := b.out (.node n p)
  match o.driven with
  | some f => if Flit.poison f || o.waste then 0x08 else 0x00
  | none => if b.lacksCredit n p then 0x18 else 0x10

/-- A node's ports and ELAPSED gain `d` nanoseconds (R454). -/
def Block.accountNode (b : Block) (n d : Nat) : Block :=
  let b := (having 7 (portExists n)).foldl (fun b p => b.count (pgCntNode n) (0x040 + 0x40 * p + b.portState n p) d) b
  b.count (pgCntNode n) 0x200 d

-- DEDUCED (notes/assumptions/30.md)
-- DESIGN CHOICE (notes/assumptions/92.md)
/-- `k` units of 1/256 ns pass. Powered nodes' outputs account for the whole nanoseconds among them. -/
def Block.advance (b : Block) (k : Nat) : Block :=
  let d := (b.elapsed + k) / 256 - b.elapsed / 256
  let b := if d = 0 then b else
    ((List.range 112).filter (fun n => (b.dom (domOfNode n)).up)).foldl (fun b n => b.accountNode n d) b
  { b with now := b.now + k, elapsed := b.elapsed + k }

-- DESIGN CHOICE (notes/assumptions/92.md)
/-- Let time pass until `t` on the elapsed scale, if that lies ahead. -/
def Block.until (b : Block) (t : Nat) : Block := if b.elapsed < t then b.advance (t - b.elapsed) else b

/-- Let time pass until device time is `t` (1/256 ns), if that lies ahead. -/
def Block.untilTime (b : Block) (t : Nat) : Block := if b.now < t then b.advance (t - b.now) else b

/-- Let time pass until node `n`'s own device time is `t`, if that lies ahead (05 R144). -/
def Block.untilCell (b : Block) (n t : Nat) : Block := b.untilTime ((t : Int) - b.cellShift n).toNat

/-! ### The live profiles and tables (R103-R105) -/

/-- The frame boundary at which a PG_COMMIT registered at T_ns = t takes effect (R103). -/
def frameBoundaryAfter (t : Nat) : Nat :=
  let f := (t / 1024 + 1) * 1024
  if 16 ≤ f - t then f else f + 1024

/-- Copy the shadow profiles, AGE and slot tables into live state; the steward will compute PM_VFLOOR again (R112). -/
def Block.activateArb (b : Block) (n : Nat) : Block :=
  let pg := pgNode n
  let offs := (List.range 4).map (fun p => 0x060 + 4 * p) ++ (List.range 28).map (fun k => 0x080 + 4 * k)
  let b := offs.foldl (fun b o => b.wrLive pg o (b.rd pg o)) b
  let b := (b.s pg NODE_ARB_PEND 0).modNode n (fun x => { x with arbAt := none })
  { b with stw := { b.stw with floorDue := true } }

/-- A pending activation whose instant has come by the node's cell is made before anything else that the instant holds (R104, R105). -/
def Block.dueArb (b : Block) (n : Nat) : Block :=
  match (b.node n).arbAt with
  | some t => if t * 256 ≤ b.cellNow n then b.activateArb n else b
  | none => b

end Sys2Proof.Machine
end

