-- ==== Sys2Proof/Machine/Links.lean ====
section
/-! DEFINITION. The commands of links and node arbitration: FLIT_RECEIVE to ARB_ACTIVATION, NODE_FLUSH, LINK_WIRE_FAULT
(02 R24-R31; 03 R63, R72, R88; 04 R95-R106; 14 R436). -/
namespace Sys2Proof.Machine

/-! ### Spare lanes and the check code (R26, R29, R90) -/

/-- The lowest spare of a direction that names wire `w` in the live map at index `i` of node `n`. -/
def Block.spareFor (b : Block) (n i w : Nat) : Option Nat :=
  (List.range 4).find? (fun s => b.gl (pgNode n) (NODE_LANE_MAP i s) == w)

/-- The wire that spare lane `s` carries at the sender, if it is in use. -/
def Block.carried (b : Block) (n i s : Nat) : Option Nat :=
  let w := b.gl (pgNode n) (NODE_LANE_MAP i s)
  if w < 144 ∧ b.spareFor n i w = some s then some w else none

/-- Bit `w` of the 144 wires that spell a flit (R22). -/
def wireBit (f : Flit) (w : Nat) : Bool :=
  if w < 135 then f.toNat.testBit w else (Config.checkBits f).toNat.testBit (w - 135)

/-- The logical wires that arrive wrong at input end `r`, for lanes inverted as `errs` says and idle spare lanes at the
levels of `idle`. -/
def Block.wrongWires (b : Block) (r : Port) (f : Flit) (errs : BitVec 148) (idle : Nat) : List Nat :=
  match r, upstream r with
  | .node n q, some (.node m p) =>
    having 144 (fun w =>
      match b.spareFor n (4 + q) w with
      | none => errs.toNat.testBit w
      | some s =>
        let lane := match b.carried m p s with | some c => wireBit f c | none => idle.testBit s
        errs.toNat.testBit (144 + s) ^^ (lane ^^ wireBit f w))
  | _, _ => having 144 (fun w => errs.toNat.testBit w)

/-- Is some wire read from a spare lane that its sender does not drive? -/
def Block.idleSpare (b : Block) (r : Port) : Bool :=
  match r, upstream r with
  | .node n q, some (.node m p) =>
    (List.range 4).any (fun s => (b.carried n (4 + q) s).isSome && (b.carried m p s).isNone)
  | _, _ => false

/-- A flit with its wires below 135 inverted where `ws` says. -/
def flipWires (f : Flit) (ws : List Nat) : Flit :=
  ws.foldl (fun f w => if w < 135 then f ^^^ BitVec.ofNat 135 (2 ^ w) else f) f

/-- What the check code makes of a received flit. -/
inductive Checked where
  | clean (f : Flit)
  | corrected (f : Flit) (wire : Nat)
  | double (f : Flit)

-- DESIGN CHOICE (notes/assumptions/8.md)
/-- Check a flit that arrives with the wires `ws` wrong (R26). Three or more have no defined outcome: `x` is free. -/
def checkFlit (f : Flit) (ws : List Nat) (x : Nat) : Checked :=
  match ws with
  | [] => .clean f
  | [w] => .corrected f w
  | [_, _] => .double (flipWires f ws)
  | _ =>
    let g := flipWires f ws
    match x % 3 with
    | 0 => .clean g
    | 1 => .corrected (flipWires g [x / 3 % 144]) (x / 3 % 144)
    | _ => .double g

/-! ### Lane watch (R436) -/

-- DEDUCED (notes/assumptions/89.md)
def Block.laneWatch (b : Block) (n q w : Nat) : Block :=
  let pg := pgNode n
  let c := if b.g pg (NODE_LANE_WATCH_WIRE q) = w then satAdd 8 (b.g pg (NODE_LANE_WATCH_COUNT q)) 1 else 1
  let b := (b.s pg (NODE_LANE_WATCH_WIRE q) w).s pg (NODE_LANE_WATCH_COUNT q) c
  if c = max 1 (b.g pg NODE_MARGIN_CFG_LANE_THRESH) then
    if (having 4 (fun s => decide (144 ≤ b.g pg (NODE_LANE_MAP (4 + q) s)))) = [] then b.raise (srcNode n 0) clLINK 2 q
    else
      let b := b.raise (srcNode n 0) clLINK 1 q
      { b with stw := { b.stw with lanes := b.stw.lanes ++ [{ n, q, w }] } }
  else b.raise (srcNode n 0) clLINK 0 q

-- DEDUCED (notes/assumptions/89.md)
/-- A corrected flit on input `q` of node `n`: a LINK event at L0 (R26), or the one of R436 or R438 alone at the threshold, as the
worked example of R438 shows. -/
def Block.corrected (b : Block) (n q w : Nat) : Block :=
  if q < 4 then (b.count (pgCntNode n) (0x040 + 0x40 * q + 0x38)).laneWatch n q w else b.raise (srcNode n 0) clLINK 0 q

/-! ### A node input -/

/-- Discard what a node holds of the packet it is receiving on (q, v). -/
def Block.dropOpen (b : Block) (n q v : Nat) : Block :=
  let x := b.buf n q v
  let keep := (x.flits.reverse.dropWhile (fun f => !Flit.isLast f.1)).reverse
  let k := x.flits.length - keep.length
  let b := if keep = [] then b.releaseFront n q v else b
  (b.setBuf n q v { x with flits := keep, front := if keep = [] then none else x.front }).addOwed (.node n q) v k

/-- A link protocol error on input `q` (R25, R87). -/
def Block.linkError (b : Block) (n q : Nat) : Block :=
  let b := if q < 4 then b.s (pgNode n) ⟨0x04C, 8 + q, 1⟩ 1 else b
  b.raise (srcNode n 0) clLINK 2 q

def Block.setRx (b : Block) (n q v : Nat) (r : Option RxPkt) : Block := b.setBuf n q v { b.buf n q v with rx := r }

-- DEDUCED (notes/assumptions/95.md)
/-- Store an accepted flit in its buffer; an armed MM_FLIPMASK of region 30 meets it there, at an address that no rule gives
(11 R345). A head that comes to the front may take a parked port (04 R96). -/
def Block.pushFlit (b : Block) (n q v : Nat) (f : Flit) : Block :=
  let x := b.buf n q v
  let armed := b.on pgMM MM_FLIPMASK_ARM && b.g pgMM MM_FLIPMASK_REGION == 30
  let a := b.fresh
  let fl := (if armed then a.2 else b).takeFlips 30 a.1
  let b := Block.routeVc 5 n q v (fl.2.setBuf n q v { x with flits := x.flits ++ [(f, fl.1)] })
  if Flit.isHead f && x.flits.isEmpty && x.front.isNone then
    match (b.buf n q v).front with
    | some h => ((b.dueArb n).parkedGrant n q v).driveNode n (if h.onEsc then h.eport else h.nport)
    | none => b
  else b

/-- Is a header on VC `v` allowed there (R55)? -/
def headVcOk (p : Packet) (v : Nat) : Bool := decide (p.cls < 5) && (v == normalVc p.cls || v == escapeVc p.cls p.rep)

/-- A HEAD or SINGLE flit discarded as R26 or R25 say: the packet goes through its TAIL. -/
def Block.dropHead (b : Block) (n q v : Nat) (p : Packet) (f : Flit) : Block :=
  let rx := if Flit.isLast f then none else some { cls := p.cls, rep := p.rep, dst := p.dst, discard := true : RxPkt }
  ((b.setRx n q v rx).addOwed (.node n q) v 1).countDiscard n p.rep

-- DESIGN CHOICE (notes/assumptions/93.md)
/-- A flit arrives at input `q` of node `n`; `bad` says the check code found a double error (R25-R27, R55, R59). TYPE, VC and REP of such
a flit are taken as received. -/
def Block.nodeInput (b : Block) (n q : Nat) (f : Flit) (bad : Bool) : Block :=
  let v := Flit.vc f
  let p := packetOf (Flit.payload f)
  if 9 ≤ v then b.linkError n q
  else if !b.portOn n q then b.addOwed (.node n q) v 1
  else if Flit.isHead f then
    if (b.buf n q v).rx.isSome then
      let r := (b.buf n q v).rx
      let b := match r with
        | some o => if o.discard then b else (b.dropOpen n q v).countDiscard n o.rep
        | none => b
      (b.dropHead n q v p f).linkError n q
    else if bad || Flit.poison f then (b.dropHead n q v p f).raise (srcNode n 0) clLINK 1 q
    else if !headVcOk p v then (b.dropHead n q v p f).linkError n q
    else
      let rx := if Flit.isLast f then none else some { cls := p.cls, rep := p.rep, dst := p.dst : RxPkt }
      (b.setRx n q v rx).pushFlit n q v f
  else
    match (b.buf n q v).rx with
    | none => (b.addOwed (.node n q) v 1).linkError n q
    | some r =>
      let b := if bad then b.raise (srcNode n 0) clLINK 1 q else b
      let rx := if Flit.isLast f then none else some { r with nData := r.nData + 1 }
      if r.discard then
        let b := (b.setRx n q v rx).addOwed (.node n q) v 1
        if r.nData = 16 then b.linkError n q else b
      else if 16 ≤ r.nData then
        let b := (b.dropOpen n q v).countDiscard n r.rep
        let rx := if Flit.isLast f then none else some { r with discard := true, nData := 17 }
        ((b.setRx n q v rx).addOwed (.node n q) v 1).linkError n q
      else (b.setRx n q v rx).pushFlit n q v (if bad then Flit.setPoison f else f)

/-! ### An NI input -/

/-- Does NI `i` accept the packet with head `p` into a discard that it decides on the head (R454)? -/
def Block.niDiscards (b : Block) (i : Nat) (p : Packet) : Bool :=
  (b.stuck i && (isResponse p.opc || p.forEndpoint)) ||
  (p.opc == oSTAGE && (p.len + 1) % 8 != 0) ||
  (isResponse p.opc && !(b.ni i).txns.any (fun t => t.tag == p.tag)) ||
  (p.opc == oARM && !((b.crec i p.slot).isOpen && (b.crec i p.slot).cseq == p.cseq)) ||
  (p.opc == oWRP && p.peri != stOK)

/-- The epoch balance of R70. -/
def Block.addBal (b : Block) (i e : Nat) (k : Int) : Block :=
  b.modNi i (fun x => { x with bal := AMap.set 0 x.bal (e % 2) (AMap.get 0 x.bal (e % 2) + k) })

/-- A whole packet has arrived at NI `i` (R70, R81). A commit-class packet or EVENT with another number of data flits than R37 gives is
discarded (R42); requests and responses meet that check where they are decoded. -/
def Block.acceptPacket (b : Block) (i : Nat) (p : Packet) : Block :=
  let b := if nonPosted p.opc then b else b.addBal i p.rep (-1)
  let b := if isCommitOp p.opc then b.cntNi i cCMT_RX else b
  if (isCommitOp p.opc || p.opc == oEVENT) && p.flits.length != dataFlitCount p.opc p.len 0 then
    (b.cntNi i cRX_DISCARD).raise (srcNi i 0) clNI 1
  else
    let p := { p with since := b.elapsed, arr := b.cellHdr (facing i p.via).1 }
    b.modNi i (fun x => { x with rx := x.rx ++ [p] })

-- DEDUCED (notes/assumptions/11.md), DESIGN CHOICE (notes/assumptions/93.md)
/-- A flit arrives at attachment `a` of NI `i`. The local link is checked like any other (notes/assumptions/11.md); TYPE, VC and REP of a
flit with a double error are taken as received. The peristome judges a request when its head is decoded (10 R304). -/
def Block.niInput (b : Block) (i a : Nat) (f : Flit) (bad : Bool) : Block :=
  let v := Flit.vc f
  let fc := facing i a
  let got := AMap.get {} (b.ni i).asm (vcKey a v)
  let keep (b : Block) (y : Asm) : Block := b.modNi i (fun x => { x with asm := AMap.set {} x.asm (vcKey a v) y })
  let rest : Asm := { discard := !Flit.isLast f }
  if 9 ≤ v then b.linkError fc.1 fc.2
  else
    let b := b.addOwed (.ni i a) v 1
    if Flit.isHead f then
      let p := { packetOf (Flit.payload f) with via := a }
      let peri := b.packetVerdict i p
      let lost := (keep b rest).countDiscard fc.1 p.rep
      if got ≠ {} then
        (if got.flits = [] then lost else lost.countDiscard fc.1 (packetFrom got.flits).rep).linkError fc.1 fc.2
      else if bad || Flit.poison f then lost.raise (srcNode fc.1 0) clLINK 1 fc.2
      else if Flit.isLast f then b.acceptPacket i { p with peri := peri }
      else keep b { flits := [f], peri := peri }
    else if got = {} then b.linkError fc.1 fc.2
    else
      let b := if bad then b.raise (srcNode fc.1 0) clLINK 1 fc.2 else b
      if got.discard then keep b rest
      else if 17 ≤ got.flits.length then ((keep b rest).countDiscard fc.1 (packetFrom got.flits).rep).linkError fc.1 fc.2
      else
        let fs := got.flits ++ [if bad then Flit.setPoison f else f]
        if Flit.isLast f then (keep b {}).acceptPacket i { packetFrom fs with via := a, peri := got.peri }
        else keep b { got with flits := fs }

/-! ### The acknowledge -/

/-- The receiver's acknowledge reaches the output end `s`: the flit is gone, and the owner sends its next (R30, R95). -/
def Block.acked (b : Block) (s : Port) (f : Flit) (waste : Bool) : Block :=
  let o := b.out s
  let w := waste || o.waste || Flit.poison f
  let b := b.setOut s { o with driven := none, waste := (waste || o.waste) && !Flit.isLast f }
  match s with
  | .node n p =>
    let pg := pgCntNode n
    let b := b.count pg (0x040 + 0x40 * p + (if w then 0x28 else 0x20))
    let b := if Flit.isHead f then b.count pg (0x040 + 0x40 * p + 0x30) else b
    (b.driveNode n p).refreshCand n
  | .ni i a => (b.driveNi i a).refreshInj i

/-- Refresh what an input end's node knows of its candidates. -/
def Block.settle (b : Block) : Port → Block
  | .node n _ => b.refreshCand n
  | .ni i _ => b.refreshInj i

/-! ### Bits that flip of themselves (03 R545; 11 R336) -/

/-- An entry's stored parity bit no longer matches, or matches again. -/
def Node.toggleRt (x : Node) (k : Nat) : Node :=
  { x with badRt := if x.badRt.contains k then x.badRt.filter (· != k) else x.badRt ++ [k] }

/-- One bit flips: of a route-table entry or NODE_ESC word, or of a flit's stored word. -/
def Block.upset (b : Block) : Upset → Block
  | .entry n e i k =>
    let off := 0x400 + 0x100 * e + 4 * (i / 4)
    let b := if k < 8 then b.wr (pgNode n) off (b.rd (pgNode n) off ^^^ BitVec.ofNat 32 (2 ^ (8 * (i % 4) + k))) else b
    b.modNode n (fun x => x.toggleRt (256 * e + i))
  | .esc n e k =>
    let off := 0x044 + 4 * e
    let b := if k < 32 then b.wr (pgNode n) off (b.rd (pgNode n) off ^^^ BitVec.ofNat 32 (2 ^ k)) else b
    b.modNode n (fun x => x.toggleRt (escKey e))
  | .flit n q v j k =>
    let x := b.buf n q v
    b.setBuf n q v { x with flits := x.flits.zipIdx.map (fun h =>
      if h.2 = j ∧ k < 128 + codeBits (b.liveCode 30) then
        (h.1.1, if h.1.2.contains k then h.1.2.filter (· != k) else h.1.2 ++ [k]) else h.1) }

def Block.upsets (b : Block) (us : List Upset) : Block := us.foldl Block.upset b

/-! ### FLIT_RECEIVE (R30) -/

-- DEDUCED (notes/assumptions/11.md), DESIGN CHOICE (notes/assumptions/93.md)
/-- Receiver `r` latches the flit that its sender drives, with the lanes of `errs` inverted, and acknowledges it. -/
def Block.flitReceive (b : Block) (r : Port) (errs : BitVec 148) : Block :=
  match upstream r with
  | none => b
  | some s =>
    match (b.out s).driven with
    | none => b
    | some f =>
      let idle := b.fresh
      let b := if b.idleSpare r then idle.2 else b
      let ws := b.wrongWires r f errs idle.1
      let odd := b.fresh
      let b := if 3 ≤ ws.length then odd.2 else b
      let c := checkFlit f ws odd.1
      let noted (b : Block) (w : Nat) : Block :=
        match r with
        | .node n q => b.corrected n q w
        | .ni i a => b.corrected (facing i a).1 (facing i a).2 w
      let input (b : Block) (g : Flit) (bad : Bool) : Block :=
        match r with
        | .node n q => b.nodeInput n q g bad
        | .ni i a => b.niInput i a g bad
      let waste := match r with
        | .ni i a =>
          let p := { packetOf (Flit.payload f) with via := a }
          (Flit.isHead f && b.niDiscards i { p with peri := b.packetVerdict i p }) || (Flit.poison f && !Flit.isHead f)
        | .node _ _ => false
      let b := match c with
        | .clean g => input b g false
        | .corrected g w => input (noted b w) g false
        | .double g => input b g true
      (b.acked s f waste).settle r

def execFlitReceive (r : Port) (errs : BitVec 148) (ups : List Upset) (s : State) : Host.Outcome State Fault Refusal :=
  need (portOk r && ups.all upsetOk) (runB (fun b => (b.upsets ups).flitReceive r errs) s)

/-! ### CREDIT_RETURN (R31) -/

/-- A credit that the receiver owes goes back to the output end `s`. -/
def Block.creditReturn (b : Block) (s : Port) (v : Nat) : Block :=
  match downstream s with
  | none => b
  | some r =>
    if b.owedAt r v = 0 then b
    else
      let b := (b.takeOwed r v).modOut s (fun o => o.setCredit v (o.credit v + 1))
      b.settle s

def execCreditReturn (s : Port) (vc : Nat) (st : State) : Host.Outcome State Fault Refusal :=
  need (portOk s && decide (vc < 9)) (runB (fun b => b.creditReturn s vc) st)

/-! ### ESCAPE_WAIT_EXPIRY (R63) -/

def Block.escapeWaitExpiry (b : Block) (n q v : Nat) : Block :=
  match (b.buf n q v).front with
  | none => b
  | some f =>
    if f.started || f.onEsc || f.mayEsc then b
    else
      let b := b.until (f.since + f.escWait * 2048)
      (b.setBuf n q v { b.buf n q v with front := some { f with mayEsc := true } }).refreshCand n

def execEscapeWaitExpiry (n p vc : Nat) (s : State) : Host.Outcome State Fault Refusal :=
  need (portExists n p && decide (vc < 9)) (runB (fun b => b.escapeWaitExpiry n p vc) s)

/-! ### HEAD_AGED (R97) -/

/-- AGE of a node in 1/256 ns: units of 64 ns, 0 taken as 1 (R100). -/
def Block.ageLimit (b : Block) (n : Nat) : Nat := max 1 (b.gl (pgNode n) NODE_ARB_AGE) * 16384

def Block.headAged (b : Block) (r : Port) (v : Nat) : Block :=
  match r with
  | .node n q =>
    match (b.buf n q v).front with
    | none => b
    | some f =>
      match f.cand with
      | none => b
      | some t =>
        if f.started || f.cls == cRSP then b
        else
          let b := b.until (t + b.ageLimit n)
          b.setBuf n q v { b.buf n q v with front := some { f with aged := true } }
  | .ni i a =>
    let c := v - 2
    match AMap.get none (b.ni i).injCand c, (b.ni i).queue c with
    | some t, p :: _ =>
      if v < 3 ∨ 6 < v ∨ b.attachFor i p ≠ a then b
      else
        let b := b.until (t + b.ageLimit (facing i a).1)
        b.modNi i (fun x => { x with injAged := AMap.set false x.injAged c true })
    | _, _ => b

def execHeadAged (r : Port) (vc : Nat) (s : State) : Host.Outcome State Fault Refusal :=
  need (portOk r && decide (vc < 9)) (runB (fun b => b.headAged r vc) s)

/-! ### SLOT_BOUNDARY (R101) -/

-- DESIGN CHOICE (notes/assumptions/96.md)
/-- Device time goes to the next multiple of 16 ns; every output of a node whose cell keeps the TU's time then ranks by its next slot, and
any other by the slot that its own cell gives. -/
def Block.slotBoundary (b : Block) : Block := b.untilTime ((b.now / 4096 + 1) * 4096)

def execSlotBoundary (s : State) : Host.Outcome State Fault Refusal := runB Block.slotBoundary s

/-! ### ARB_ACTIVATION (R103) -/

def Block.arbActivation (b : Block) (n : Nat) : Block :=
  match (b.node n).arbAt with
  | none => b
  | some t => (b.untilCell n (t * 256)).activateArb n

def execArbActivation (n : Nat) (s : State) : Host.Outcome State Fault Refusal :=
  need (isNode n) (runB (fun b => b.arbActivation n) s)

/-! ### NODE_FLUSH (R88) -/

/-- The packets of one buffer with each flit's epoch: keep those not of epoch `e`. Answers the kept flits and the number of
flits and packets dropped; `cur` is the epoch of the open packet and `fresh` says that its head is not in the buffer. -/
def flushFlits (e : Nat) : Nat → List (Flit × List Nat) → List (Flit × List Nat) × Nat × Nat
  | _, [] => ([], 0, 0)
  | cur, f :: fs =>
    let r := if Flit.isHead f.1 then (packetOf (Flit.payload f.1)).rep else cur
    let t := flushFlits e r fs
    if r = e then (t.1, t.2.1 + 1, t.2.2 + (if Flit.isHead f.1 then 1 else 0)) else (f :: t.1, t.2.1, t.2.2)

/-- Discard every packet of epoch `e` in one input VC and return its credits (R72, R88). -/
def Block.flushVc (b : Block) (n e q v : Nat) : Block :=
  let x := b.buf n q v
  let frontGone := match x.front with | some f => f.rep == e | none => false
  let started := match x.front with | some f => f.started && f.rep == e | none => false
  let cur := (x.front.map (fun f => f.rep)).getD (1 - e)
  let t := flushFlits e cur x.flits
  let headless := started && !(match x.flits with | f :: _ => Flit.isHead f.1 | [] => false)
  let b := if started then b.releaseFront n q v else b
  let rx := x.rx.map (fun r => if r.rep = e then { r with discard := true } else r)
  let b := b.setBuf n q v { x with flits := t.1, front := if frontGone then none else x.front, rx := rx }
  let b := b.addOwed (.node n q) v t.2.1
  let b := b.bump (pgNode n) (NODE_DISCARD e) (t.2.2 + b2n headless)
  b.routeVc 5 n q v

def Block.flushNode (b : Block) (n e : Nat) : Block :=
  (inputVcs.foldl (fun b c => b.flushVc n e c.1 c.2) b).refreshCand n

/-- Is a flush of epoch `e` honoured: not of the current epoch, but in a spine node in phase 2 of SD's entry (R88)? -/
def Block.flushAllowed (b : Block) (n e : Nat) : Bool :=
  b.nodeCur n != e || (isSpine n && b.domPhase domSD == 2)

def Block.nodeFlush (b : Block) (n : Nat) (even odd : Bool) : Block :=
  let b := if even && b.flushAllowed n 0 then b.flushNode n 0 else b
  if odd && b.flushAllowed n 1 then b.flushNode n 1 else b

def execNodeFlush (n : Nat) (even odd : Bool) (s : State) : Host.Outcome State Fault Refusal :=
  need (isNode n) (runB (fun b => b.nodeFlush n even odd) s)

end Sys2Proof.Machine
end

