-- ==== Sys2Proof/Machine/Wake.lean ====
section
/-! DEFINITION. The power manager's wake logic, and the steward's queue of epoch changes (13 R391-R404, 12 R371, 03 R64). -/
namespace Sys2Proof.Machine

/-- The rail that carries a domain's logic (R391): 0 VFAB_W, 1 VFAB_E, 2 VSPN, 3 VMEM. -/
def railOfDom (d : Nat) : Nat := if d < 8 then 0 else if d < 16 then 1 else 2

def domsOfRail (r : Nat) : List Nat := having 25 (fun d => railOfDom d == r)

/-- The rail's commands of R409: PAGE first, then the command. `bus` holds the last commands sent. -/
def Block.pmbus (b : Block) (r code data : Nat) : Block :=
  { b with pm := { b.pm with bus := [(r, 0x00, b.g pgPM (PM_RAIL_CFG_PAGE r)), (r, code, data)] } }

def railIDLE : Nat := 0
def railCHANGING : Nat := 1
def railOFF : Nat := 2
def railFAULT : Nat := 3

def Block.railState (b : Block) (r : Nat) : Nat := b.g pgPM (PM_RAIL_STATUS_STATE r)

/-- Every domain of a rail is OFF and AUTO_OFF is 1: the rail goes off (R392). VMEM never does, and a rail whose VOUT_MODE is not linear
is never commanded (R409). -/
def Block.autoOff (b : Block) (r : Nat) : Block :=
  if r < 3 ∧ b.on pgPM (PM_RAIL_CFG_AUTO_OFF r) = true ∧ b.railState r ≠ railOFF ∧ (b.rail r).fixed = false ∧
      (domsOfRail r).all (fun d => b.domState d == 2 && b.domPhase d == 0) = true then
    (b.pmbus r 0x01 0x00).s pgPM (PM_RAIL_STATUS_STATE r) railOFF
  else b

/-- Phase 8 of a wake, or phase 9 where the rail is up (R398). -/
def Block.wakeAttempt (b : Block) (d : Nat) : Block :=
  let r := railOfDom d
  let b := b.modDom d (fun x => { x with retry := false, waitSd := false, since := b.elapsed })
  if b.railState r = railOFF then
    let b := (b.pmbus r 0x01 0x80).s pgPM (PM_RAIL_STATUS_STATE r) railCHANGING
    let b := b.modRail r (fun x => { x with since := some b.elapsed })
    (b.s pgPM (PM_DOMAIN_PHASE d) 8).modDom d (fun x => { x with railOn := true })
  else if b.railState r = railCHANGING ∧ (b.dom d).railOn = false ∧
      (domsOfRail r).any (fun e => (b.dom e).railOn && b.domPhase e == 8) = true then
    b.s pgPM (PM_DOMAIN_PHASE d) 8
  else b.s pgPM (PM_DOMAIN_PHASE d) 9

/-- Start the wake of a domain that is RETAIN or OFF and stable. -/
def Block.startWake (b : Block) (d src group : Nat) : Block :=
  let b := b.modDom d (fun x => { x with src := src, group := group, railOn := false, included := false, result := none })
  let b := (b.s pgPM (PM_DOMAIN_ATTEMPTS d) 1).s pgPM (PM_DOMAIN_FAIL d) 0
  if d ≠ domSD ∧ (b.domState domSD ≠ 0 ∨ b.domPhase domSD ≠ 0) then
    (b.s pgPM (PM_DOMAIN_PHASE d) 8).modDom d (fun x => { x with waitSd := true })
  else b.wakeAttempt d

/-- A wake reaches a domain (R402): latched during an entry, without effect on a domain that is ON or waking. -/
def Block.wakeDom (b : Block) (d src group : Nat) : Block :=
  let ph := b.domPhase d
  if 1 ≤ ph ∧ ph ≤ 7 then
    if (b.dom d).latched.isSome then b
    else (b.s pgPM (PM_DOMAIN_WAKE_LATCHED d) 1).modDom d (fun x => { x with latched := some (src, group) })
  else if b.domState d = 0 ∨ ph ≠ 0 then b
  else b.startWake d src group

/-- A wake of the domains `ds` from source `src`. A wake of an LD or FD domain wakes SD first (R399). -/
def Block.wakeSet (b : Block) (ds : List Nat) (src : Nat) : Block :=
  let group := (ds.filter (fun d => b.domState d != 0 || b.domPhase d != 0)).headD 0
  let waking := ds.any (fun d => d != domSD && b.domState d != 0)
  let b := if waking then b.wakeDom domSD src group else b
  ds.foldl (fun b d => b.wakeDom d src group) b

def wHOST : Nat := 1
def wSERVICE : Nat := 6
def wREQUEST : Nat := 7
def wFAULT : Nat := 8
def wTIMER : Nat := 9
def wCART : Nat := 10

/-- Is wake source `src` enabled (R401)? -/
def Block.wakeEnabled (b : Block) (src : Nat) : Bool := src == wHOST || bit (b.g pgPM PM_WAKE_EN_EN) src

/-- A wake source fires (R401). -/
def Block.wakeFrom (b : Block) (ds : List Nat) (src : Nat) : Block :=
  if b.wakeEnabled src then b.wakeSet ds src else b.bump pgPM PM_STATUS_WAKE_DROPPED

def Block.wakeSetOf (b : Block) (src : Nat) : List Nat := having 25 (fun d => bit (b.g pgPM (PM_WAKE_SET_DOMAINS src)) d)

/-- A request or commit for an OFF domain asks for its wake (R76, R181, R401). -/
def Block.wakeByRequest (b : Block) (d : Nat) : Block :=
  if b.wakeEnabled wREQUEST then
    (if (b.wakeSetOf wREQUEST).contains d then b.wakeSet [d] wREQUEST else b)
  else b.bump pgPM PM_STATUS_WAKE_DROPPED

/-- PM_STATUS.BUSY (R414): a request or wake is in progress. -/
def Block.pmBusy (b : Block) : Bool := (List.range 25).any (fun d => b.domPhase d != 0)

/-- PM_STATUS.DEV_STATE (R390): 0 RUN, 1 TRIM, 2 DOZE, 3 HOLD. -/
def Block.devState (b : Block) : Nat :=
  if b.domState domSD ≠ 0 then 3
  else if (List.range 24).all (fun d => b.domState d == 0) then 0
  else if (List.range 24).all (fun d => b.domState d != 0) then 2
  else 1

/-- Ask the steward for an epoch change (R64): it waits in its queue. -/
def Block.askChange (b : Block) (c : Cause) : Block := { b with stw := { b.stw with queue := b.stw.queue ++ [c] } }

end Sys2Proof.Machine
end

