-- ==== Sys2Proof/Machine/Memory.lean ====
section
/-! DEFINITION. Memory words: code regions, the check of a read word, poisoning, correction and soft repair, master writes,
and what a write or a poisoning does to a frond's segment (07 R213-R222; 11 R329-R345). -/
namespace Sys2Proof.Machine

/-! ### Code regions (R329) -/

/-- The code region of a memory address; the working SRAM stands at its STW_REMAP.MAP = 0 addresses (R357). -/
def regionOf (a : Nat) : Option Nat :=
  match area a with
  | .zero off => if off < 0x20000 then some 13 else if off < 0x40000 then none else if off < 0x70000 then some 11 else some 12
  | .bank k _ => some k
  | .evlog _ => some 8
  | .ledger _ => some 9
  | .retention _ => some 10
  | _ => none

/-- First byte and size of the memory of region `r`, 0-13. -/
def regionBase (r : Nat) : Nat :=
  if r < 8 then bankAddr r 0 else if r = 8 then evlAddr else if r = 9 then ledgerAddr else if r = 10 then retentionAddr
  else if r = 11 then 0x40000 else if r = 12 then 0x70000 else 0

def regionSize (r : Nat) : Nat :=
  if r < 9 then 0x800000 else if r = 9 then 0x400000 else if r = 10 then 0x40000 else if r = 11 then 0x30000
  else if r = 12 then 0x10000 else 0x20000

/-- Bytes with the data bits among `flips` inverted. -/
def flipBytes (bs : List Byte) (flips : List Nat) : List Byte :=
  leBytes bs.length (flips.foldl (fun n p => if p < 128 then n ^^^ 2 ^ p else n) (leNat bs))

/-! ### Raw access -/

def rawBytes (m : Mem) (a len : Nat) : List Byte := (List.range len).map (fun j => m.byteAt (a + j))

def byteOps (a : Nat) (bs : List Byte) : List MemOp := bs.zipIdx.map (fun q => .byte (a + q.2) q.1)

/-- Change stored bytes and nothing else: the unit's own logic at work, not a master's write. -/
def Sys.poke (w : Sys) (a : Nat) (bs : List Byte) : Sys := w.emit (byteOps a bs)

def Sys.setFlags (w : Sys) (a : Nat) (f : WFlags) : Sys := w.emit [.flags (a / 16) f]

/-- Write whole words as R220 and R334 say of one: data, good check bits, valid, no poison. -/
def Sys.pokeWords (w : Sys) (a : Nat) (bs : List Byte) : Sys :=
  let w := w.poke a bs
  (List.range (ceilDiv bs.length 16)).foldl (fun w j => w.setFlags (a + 16 * j) { valid := true }) w

/-! ### Descriptors and the granule map of a bank (R213, R217) -/

def descAddr (k id : Nat) : Nat := bankAddr k (0x7E0000 + 128 * id)
def granuleAddr (k g : Nat) : Nat := bankAddr k (0x7DC000 + 2 * g)

structure Desc where
  defined : Bool
  intact : Bool
  pinned : Bool
  retiring : Bool
  mask : Nat
  gen : Nat
  base : Nat
  size : Nat
  n : Nat
  flitsW : Nat
  flitsE : Nat
  targets : Nat
  digest : List Byte

def descFrom (bs : List Byte) : Desc :=
  let w (j : Nat) : Nat := leNat (sliceBytes bs (4 * j) 4)
  { defined := bit (w 0) 0, intact := bit (w 0) 1, pinned := bit (w 0) 2, retiring := bit (w 0) 3, mask := bitsOf (w 0) 8 8,
    gen := bitsOf (w 0) 16 16, base := bitsOf (w 1) 0 13, size := bitsOf (w 1) 16 13, n := bitsOf (w 2) 0 8,
    flitsW := bitsOf (w 3) 0 16, flitsE := bitsOf (w 3) 16 16, targets := leNat (sliceBytes bs 16 24),
    digest := sliceBytes bs 0x40 32 }

def Desc.bytes (d : Desc) : List Byte :=
  leBytes 4 (b2n d.defined + 2 * b2n d.intact + 4 * b2n d.pinned + 8 * b2n d.retiring + d.mask * 2 ^ 8 + d.gen * 2 ^ 16) ++
  leBytes 4 (d.base + d.size * 2 ^ 16) ++ leBytes 4 d.n ++ leBytes 4 (d.flitsW + d.flitsE * 2 ^ 16) ++ leBytes 24 d.targets ++
  List.replicate 24 0 ++ sliceBytes d.digest 0 32 ++ List.replicate 32 0

/-- Does the NI of bank `k` still hold the packet that its streamer sent last on attachment `a`? Its stream, if so. -/
def Block.streamOut (b : Block) (k a : Nat) : Option Stream :=
  let x := b.ni (192 + k)
  let held := x.queue cCMT ++ x.injPkt.filterMap (fun q => q.2)
  ((AMap.get none (b.fsb k).flying a)).filter (fun s => held.any (fun p =>
    (p.opc == oSTAGE || p.opc == oSTAGE_END) && p.dst == s.ni && p.cseq == s.cseq && p.slot == s.slot))

def Fs.queue (f : Fs) (a : Nat) : List Stream := AMap.get [] f.queues a

/-- The streams of bank `k` that are queued or in progress (07 R226). -/
def Block.streamsOf (b : Block) (k : Nat) : List Stream :=
  (b.fsb k).queues.flatMap (fun q => q.2) ++ [0, 1].filterMap (fun a => b.streamOut k a)

/-- FS_STATUS.STREAMING: has slot `j` a stream queued or in progress in bank `k` (07 R230)? -/
def Block.slotStreams (b : Block) (k j : Nat) : Bool := (b.streamsOf k).any (fun s => s.slot == j)

/-- PINNED of frond `id` in bank `k` (07 R217, R226). -/
def Block.pinned (b : Block) (k id : Nat) : Bool := (b.streamsOf k).any (fun s => s.frond == id)

/-- The descriptor as the bank's own logic holds it. -/
def Sys.desc (w : Sys) (k id : Nat) : Desc :=
  { descFrom (rawBytes w.mem (descAddr k id) 128) with pinned := w.blk.pinned k id }

def Sys.granule (w : Sys) (k g : Nat) : Nat := leNat (rawBytes w.mem (granuleAddr k g) 2)

def lostWRITE : Nat := 1
def lostPOISON : Nat := 2
def lostRETIRE : Nat := 3

/-- The fronds of bank k whose segments, by their descriptors, cover granule g. -/
def Sys.frondsOver (w : Sys) (k g : Nat) : List Nat :=
  having 1024 (fun id => let d := w.desc k id; d.defined && decide (d.base ≤ g) && decide (g < d.base + d.size))

/-- FS_LOST takes a segment that loses INTACT (R222, R233). -/
def Block.noteLost (b : Block) (k id cause : Nat) : Block :=
  ((b.s (pgFs k) FS_LOST_FROND_ID id).s (pgFs k) FS_LOST_CAUSE cause).bump (pgFs k) FS_LOST_COUNT

def repairMapAddr : Nat := ledgerAddr + 0x80000

/-- The repair map has one more entry, or is full (14 R433, R434). -/
def Block.noteRepair (b : Block) : Block :=
  let n := b.g pgLG LG_REPAIR_ENTRIES + 1
  (b.s pgLG LG_REPAIR_ENTRIES n).s pgLG LG_REPAIR_FULL (b2n (n == 4096))

-- DEDUCED (notes/assumptions/97.md)
/-- What a poisoning and a repeated correction lead to: a segment of a bank loses INTACT for a cause (R222), and the ledger's repair map gains
an entry (R344). Both are partial writes, which read their word first (R334). -/
structure Deep where
  lose : Sys → Nat → Nat → Nat → Sys
  repair : Sys → Nat → Sys

/-- A word of bank k at `off` is poisoned (R222, R341). -/
def Sys.bankPoisoned (h : Deep) (w : Sys) (k off : Nat) : Sys :=
  if off < 0x7DC000 then
    let m := w.granule k (off / 1024)
    if bit m 15 then h.lose w k (m % 1024) lostPOISON else w
  else if off < 0x7E0000 then
    (((List.range 8).flatMap (fun j => w.frondsOver k ((off - 0x7DC000) / 16 * 8 + j))).foldl
      (fun w id => h.lose w k id lostPOISON) w)
  else h.lose w k ((off - 0x7E0000) / 128) lostPOISON

/-! ### Poisoning (R341, R342) -/

def Sys.poisonWord (h : Deep) (w : Sys) (a : Nat) : Sys :=
  let a := wordOf a
  match regionOf a with
  | none => w
  | some r =>
    let w := w.setFlags a { w.mem.flagsAt (a / 16) with poison := true }
    let w := w.upd (fun b =>
      let b := if b.mm.poison.length < 64 then { b with mm := { b.mm with poison := b.mm.poison ++ [(a, r)] } }
        else b.bump pgMM MM_STATUS_POISON_OVF
      (b.bump pgMM MM_COUNTS_UE).raise (memSource r) clMEMUE 1 r)
    if r < 8 then w.bankPoisoned h r (a - bankAddr r 0) else w

/-! ### Corrections and soft repair (R340, R343, R344; 14 R433, R434) -/

def Block.repeatThresh (b : Block) : Nat := max 2 (b.g pgMM MM_REPEAT_CFG_THRESH)

/-- Replace the entry with the lowest count, the least recently changed among equals. -/
def replaceLowest (e : Repeat) (rs : List Repeat) : List Repeat :=
  match bestIn rs with
  | none => [e]
  | some m => rs.erase m ++ [e]
where
  bestIn : List Repeat → Option Repeat
    | [] => none
    | x :: xs => match bestIn xs with
      | none => some x
      | some y => if x.count ≤ y.count then some x else some y

-- DEDUCED (notes/assumptions/14.md)
/-- Count a correction of the word at `a`; the answer is its entry's count. -/
def Block.noteRepeat (b : Block) (a r : Nat) : Nat × Block :=
  match b.mm.repeats.find? (fun e => e.addr == a) with
  | some e =>
    let n := min (e.count + 1) b.repeatThresh
    (n, { b with mm := { b.mm with repeats := b.mm.repeats.erase e ++ [{ e with count := n }] } })
  | none =>
    let e : Repeat := { addr := a, region := r, count := 1 }
    let rs := if b.mm.repeats.length < 32 then b.mm.repeats ++ [e] else replaceLowest e b.mm.repeats
    (1, { b with mm := { b.mm with repeats := rs } })

/-- An entry of R433. -/
def repairEntry (kind origin unit sub wh spare : Nat) : Nat :=
  kind + origin * 2 ^ 4 + unit * 2 ^ 8 + sub * 2 ^ 16 + wh * 2 ^ 24 + spare * 2 ^ 32

/-- Spare rows per sub-array for soft repair (R343's table), and in a whole region (R356). -/
def sparesPerSub (r : Nat) : Nat := if r < 8 then 8 else if r < 12 then 4 else 0
def sparesOf (r : Nat) : Nat := sparesPerSub r * ceilDiv (regionSize r) 0x40000

/-- The lowest spare row of a sub-array that no row uses. -/
def Block.freeSpare (b : Block) (r sub : Nat) : Option Nat :=
  (List.range (sparesPerSub r)).find? (fun s => !b.mm.rows.any (fun q => q.1 == r && q.2.1 == sub && q.2.2.2 == s))

/-- Copy one word of a row into its spare: corrected, with its flags. -/
def Sys.copyWord (h : Deep) (w : Sys) (a : Nat) : Sys :=
  let f := w.mem.flagsAt (a / 16)
  if f.flips = [] ∨ f.poison = true then w
  else
    match regionOf a with
    | none => w
    | some r =>
      match checkWord (w.blk.liveCode r) f.flips 2 with
      | .detected => w.poisonWord h a
      | _ => w.setFlags a { f with flips := [] }

/-- Move the row of address `a` into a spare, if its sub-array has one (R344). -/
def Sys.softRepair (h : Deep) (w : Sys) (a r : Nat) : Sys × Bool :=
  let off := a - regionBase r
  let sub := off / 0x40000
  let row := off % 0x40000 / 1024
  match w.blk.freeSpare r sub with
  | none => (w, false)
  | some s =>
    let first := a / 1024 * 1024
    let w := (List.range 64).foldl (fun w j => w.copyWord h (first + 16 * j)) w
    let w := w.upd (fun b => { b with mm := { b.mm with
      rows := b.mm.rows ++ [(r, sub, row, s)], repeats := b.mm.repeats.filter (fun e => e.addr / 1024 != a / 1024) } })
    (h.repair w (repairEntry 2 2 r sub row s), true)

-- DEDUCED (notes/assumptions/90.md)
/-- A word of region `r` at `a` was corrected: its write-back waits, and it is counted (R335, R340, R343, R344). Its MEM_CE event is
at L0; at the threshold it is the one of R344, at L1 or L2. -/
def Sys.noteCorrection (h : Deep) (w : Sys) (a r : Nat) : Sys :=
  let w := w.upd (fun b => { b.bump pgMM MM_COUNTS_CE with mm := { b.mm with backs := b.mm.backs.filter (· != a) ++ [a] } })
  let event (w : Sys) (l : Nat) : Sys := w.upd (fun b => b.raise (memSource r) clMEMCE l r)
  if r < 12 then
    let n := w.blk.noteRepeat a r
    let w := { w with blk := n.2 }
    if n.1 < w.blk.repeatThresh then event w 0
    else
      let q := w.softRepair h a r
      event q.1 (if q.2 then 1 else 2)
  else event w 0

/-! ### Reading a word (R335) -/

/-- Bytes of a word whose layout the spec does not give: the ledger's device words (16 R473), and the retention store below the
pending wear area while it holds an image (13 R408). -/
def Sys.openWord (w : Sys) (a : Nat) : Option (List Byte) :=
  let b := w.blk
  if ledgerAddr + 0x89000 ≤ a ∧ a < ledgerAddr + 0x89040 then
    some ((List.range 16).map (fun j => Config.deviceByte b.lc.recorded (b.lc.target.getD 256) b.lc.powerEpoch (a + j - ledgerAddr - 0x89000)))
  else
    let saved := b.pm.images ++ b.pm.winImages.flatMap (fun q => [(q.1, q.2.w0), (q.1, q.2.w1), (q.1, q.2.w2)])
    if retentionAddr ≤ a ∧ a < retentionAddr + 0x28000 ∧ saved ≠ [] then
      some ((List.range 16).map (fun j => Config.retentionByte saved (a + j - retentionAddr)))
    else none

/-- The 16 stored bytes of a word that is valid, its wrong bits aside; the descriptor's first word shows PINNED (07 R217). -/
def Sys.storedWord (w : Sys) (a : Nat) : List Byte :=
  match w.openWord a with
  | some bs => bs
  | none =>
    if a < 0x20000 then (List.range 16).map (fun j => Config.romByte (a + j))
    else
      let bs := rawBytes w.mem a 16
      match area a with
      | .bank k off =>
        let id := (off - 0x7E0000) / 128
        if 0x7E0000 ≤ off ∧ off % 128 = 0 ∧ w.blk.pinned k id = true then
          match bs with
          | x :: xs => (if bit x.toNat 0 then BitVec.ofNat 8 (putBits x.toNat 2 1 1) else x) :: xs
          | [] => []
        else bs
      | _ => bs

/-- Read the word that holds `a` through its code: its bytes and OK, OK_CORRECTED or POISONED. -/
def Sys.readWordBy (h : Deep) (w : Sys) (a : Nat) : List Byte × Nat × Sys :=
  let a := wordOf a
  match regionOf a with
  | none => (List.replicate 16 0, stOK, w)
  | some r =>
    let f := w.mem.flagsAt (a / 16)
    let bs := w.storedWord a
    if !f.valid && r != 13 && (w.openWord a).isNone then (List.replicate 16 0, stOK, w)
    else if f.poison then (flipBytes bs f.flips, stPOISON, w)
    else
      let code := w.blk.liveCode r
      let x := w.blk.fresh
      let w := if checkOpen code f.flips then { w with blk := x.2 } else w
      match checkWord code f.flips x.1 with
      | .good => (bs, stOK, w)
      | .unseen => (flipBytes bs f.flips, stOK, w)
      | .corrected => (bs, stCORR, w.noteCorrection h a r)
      | .wrong k =>
        let bad := flipBytes bs (k :: f.flips)
        (bad, stCORR, ((w.poke a bad).setFlags a { f with flips := [k] }).noteCorrection h a r)
      | .detected => (flipBytes bs f.flips, stPOISON, w.poisonWord h a)

/-! ### Writing a word (R334, R345) -/

-- DEDUCED (notes/assumptions/19.md)
/-- Put `word` at `a` with new check bits and the poison flag `poison`: a waiting write-back is dropped, an armed MM_FLIPMASK is met. -/
def Sys.putWord (w : Sys) (a r : Nat) (word : List Byte) (poison : Bool) : Sys :=
  let fl := w.blk.takeFlips r a
  let b := fl.2
  let w := { w with blk := { b with mm := { b.mm with
    backs := b.mm.backs.filter (· != a), poison := if poison then b.mm.poison else b.mm.poison.filter (fun q => q.1 != a) } } }
  (w.poke a word).setFlags a { valid := true, poison := poison, flips := fl.1 }

/-- `bs` written over part of the word at `a`, as R334 says of a partial write. -/
def Sys.mergeBy (h : Deep) (w : Sys) (a off : Nat) (bs : List Byte) (whole : Bool) : Sys :=
  match regionOf a with
  | none => w
  | some r =>
    let old := w.readWordBy h a
    let w := old.2.2
    let poison := (w.mem.flagsAt (a / 16)).poison
    w.putWord a r (old.1.take off ++ bs ++ old.1.drop (off + bs.length)) (!whole && poison)

/-- The first byte of a descriptor with flag `j` changed. -/
def Sys.flagByte (w : Sys) (k id j : Nat) (v : Bool) : Byte :=
  BitVec.ofNat 8 (putBits (w.mem.byteAt (descAddr k id)).toNat j 1 (b2n v))

-- DEDUCED (notes/assumptions/97.md)
/-- What follows a poisoning or a repair, to a depth of `n` words read by partial writes; beyond it the byte is changed in place. -/
def deep : Nat → Deep
  | 0 =>
    { lose := fun w k id cause =>
        if (w.desc k id).intact then (w.poke (descAddr k id) [w.flagByte k id 1 false]).upd (fun b => b.noteLost k id cause) else w
      repair := fun w entry =>
        let n := w.blk.g pgLG LG_REPAIR_ENTRIES
        if n < 4096 then (w.poke (repairMapAddr + 8 * n) (leBytes 8 entry)).upd (fun b => b.noteRepair)
        else w.upd (fun b => b.raise (srcLG 1) clLEDGER 1) }
  | n + 1 =>
    { lose := fun w k id cause =>
        if (w.desc k id).intact then
          (w.mergeBy (deep n) (descAddr k id) 0 [w.flagByte k id 1 false] false).upd (fun b => b.noteLost k id cause)
        else w
      repair := fun w entry =>
        let j := w.blk.g pgLG LG_REPAIR_ENTRIES
        let a := repairMapAddr + 8 * j
        if j < 4096 then (w.mergeBy (deep n) (wordOf a) (a % 16) (leBytes 8 entry) false).upd (fun b => b.noteRepair)
        else w.upd (fun b => b.raise (srcLG 1) clLEDGER 1) }

/-- Read the word that holds `a`, with all that follows. -/
def Sys.readWord (w : Sys) (a : Nat) : List Byte × Nat × Sys := w.readWordBy (deep 2) a

/-- A segment loses INTACT (R222). -/
def Sys.loseIntact (w : Sys) (k id cause : Nat) : Sys := (deep 2).lose w k id cause

/-- Append an entry to the ledger's repair map, or report that it is full (R433, R434). -/
def Sys.appendRepair (w : Sys) (entry : Nat) : Sys := (deep 2).repair w entry

/-- A seal or retire writes whole a word of which it changes a part (R222, R334). -/
def Sys.rewrite (w : Sys) (a : Nat) (bs : List Byte) : Sys := w.mergeBy (deep 2) (wordOf a) (a % 16) bs true

/-- A flit that has not left NI `i` yet gains POISON where `f` says of its packet. -/
def Block.spoilFlits (b : Block) (i : Nat) (f : Packet → Bool) : Block :=
  let mark (p : Packet) : Packet := if f p then { p with flits := p.flits.map (fun g => (g.1, true)) } else p
  b.modNi i (fun x => { x with
    tx := x.tx.map (fun q => (q.1, q.2.map mark)),
    injRest := x.injRest.map (fun q =>
      match AMap.get none x.injPkt q.1 with
      | some p => if f p then (q.1, q.2.map (fun g => if Flit.isHead g then g else Flit.setPoison g)) else q
      | none => q),
    injPkt := x.injPkt.map (fun q => (q.1, q.2.map mark)) })

/-- A write lands in a pinned segment: what its streamer has not sent yet carries POISON, and a STAGE packet that then first holds such a flit
is counted (R223). -/
def Block.soil (b : Block) (k id : Nat) : Block :=
  let x := b.ni (192 + k)
  let mine (p : Packet) : Bool := p.opc == oSTAGE &&
    [0, 1].any (fun a => (b.streamOut k a).any (fun s => s.frond == id && p.dst == s.ni && p.cseq == s.cseq && p.slot == s.slot))
  let held := x.queue cCMT ++ x.injPkt.filterMap (fun q => if (AMap.get [] x.injRest q.1).any (fun g => !Flit.isHead g) then q.2 else none)
  let fresh := (held.filter (fun p => mine p && !p.poisoned)).length
  let b := (List.range fresh).foldl (fun b _ => b.bump (pgFs k) FS_STREAM_STAT_POISON_PKTS) (b.spoilFlits (192 + k) mine)
  b.modFs k (fun f => { f with dirty := f.dirty.filter (· != id) ++ [id] })

/-- A write lands in bank k at `off` (R220, R222, R223). -/
def Sys.landed (w : Sys) (k off : Nat) : Sys :=
  if 0x7DC000 ≤ off then w
  else
    let g := off / 1024
    let w := w.upd (fun b => b.modFs k (fun f => { f with sealing := f.sealing.map (fun s =>
      if s.base ≤ g ∧ g < s.base + s.size then { s with touched := true } else s) }))
    let m := w.granule k g
    if bit m 15 then
      let id := m % 1024
      let w := if (w.desc k id).pinned then w.upd (fun b => b.soil k id) else w
      w.loseIntact k id lostWRITE
    else w

/-- The worse of two access statuses: POISONED, OK_CORRECTED, OK. -/
def worseStatus (x y : Nat) : Nat :=
  if x = stPOISON ∨ y = stPOISON then stPOISON else if x = stCORR ∨ y = stCORR then stCORR else stOK

/-- Read `n` words from the word that holds `a`: bytes, status, and the 16-byte words that read POISONED. -/
def Sys.readWords (w : Sys) (a : Nat) : Nat → List Byte × Nat × List Nat × Sys
  | 0 => ([], stOK, [], w)
  | n + 1 =>
    let r := w.readWord a
    let t := r.2.2.readWords (a + 16) n
    (r.1 ++ t.1, worseStatus r.2.1 t.2.1, (if r.2.1 = stPOISON then [wordOf a] else []) ++ t.2.2.1, t.2.2.2)

/-- Read bytes [a, a + len): bytes, status, poisoned words. -/
def Sys.read (w : Sys) (a len : Nat) : List Byte × Nat × List Nat × Sys :=
  let n := (a + len - 1) / 16 + 1 - a / 16
  let r := w.readWords (wordOf a) n
  (sliceBytes r.1 (a % 16) len, r.2.1, r.2.2.1, r.2.2.2)

/-! ### A master's write (R334) -/

/-- Store `bs` at `off` of the word at `a`. -/
def Sys.storeWord (w : Sys) (a off : Nat) (bs : List Byte) : Sys :=
  match regionOf a with
  | none => w
  | some r =>
    let w := if bs.length = 16 then w.putWord a r bs false else w.mergeBy (deep 2) a off bs false
    if r < 8 then w.landed r (a - bankAddr r 0) else w

/-- Store bytes from `a` on, word by word; `n` is at least the number of words. -/
def Sys.storeWords (w : Sys) (a : Nat) (bs : List Byte) : Nat → Sys
  | 0 => w
  | n + 1 =>
    match bs with
    | [] => w
    | _ =>
      let k := 16 - a % 16
      (w.storeWord (wordOf a) (a % 16) (bs.take k)).storeWords (a + k) (bs.drop k) n

/-- A master's write of `bs` from address `a`. -/
def Sys.write (w : Sys) (a : Nat) (bs : List Byte) : Sys := w.storeWords a bs (bs.length / 16 + 2)

/-! ### The address-zero window (04 R110) -/

/-- The address under MAP = 0 of what lies at offset `off` of the window under the MAP in force; none where it is unmapped. -/
def Block.windowAt (b : Block) (off : Nat) : Option Nat :=
  if b.on pgSTW STW_REMAP_MAP then
    (if off < 0x40000 then some (0x40000 + off) else if off < 0x60000 then some (off - 0x40000) else none)
  else (if off < 0x20000 then some off else if off < 0x40000 then none else some off)

/-! ### Wipes (R346, R347) -/

/-- What a wipe of region `r` does in the memory manager: lists, an armed flip mask, the scrub position, the pending code. -/
def Block.wipedRegion (b : Block) (r : Nat) : Block :=
  let b := { b with mm := { b.mm with
    poison := b.mm.poison.filter (fun q => q.2 != r), repeats := b.mm.repeats.filter (fun e => e.region != r),
    backs := b.mm.backs.filter (fun a => regionOf a != some r) } }
  let b := if b.g pgMM MM_FLIPMASK_REGION = r then b.s pgMM MM_FLIPMASK_ARM 0 else b
  let b := if r < 12 then (b.s pgMM (MM_SCRUB_POS_WORD r) 0).s pgMM (MM_SCRUB_POS_PASSES r) 0 else b
  b.s pgMM (MM_REGION_LIVE r) (b.g pgMM (MM_REGION_CODE r))

/-- Wipe the memory of region `r` by its flags. -/
def Sys.wipeRegion (w : Sys) (r : Nat) : Sys :=
  let w := if r < 13 then w.emit [.wipe (regionBase r) (regionBase r + regionSize r)] else w
  w.upd (fun b => b.wipedRegion r)

end Sys2Proof.Machine
end

