-- ==== Sys2Proof/Machine/Requests.lean ====
section
/-! DEFINITION. The requester side of an NI: tags and space, the checks before injection, local answers, responses, timers
and sampling (02 R35-R48; 03 R69-R78; 09 R269-R273; 15 R461). -/
namespace Sys2Proof.Machine

/-! ### Reachability -/

def rchOK : Nat := 0
def rchOFF : Nat := 1
def rchBUSY : Nat := 2
def rchUNREACH : Nat := 3

/-- NI `i`'s reachability entry for NI `d` (R74). -/
def Block.reach (b : Block) (i d : Nat) : Nat := b.g (pgNi i) (NI_REACH d)

def Block.niUp (b : Block) (i : Nat) : Bool := (b.dom (domOfNi i)).up
def Block.niLive (b : Block) (i : Nat) : Bool := b.on (pgNi i) NI_INFO_LIVE
def Block.niEpoch (b : Block) (i : Nat) : Nat := b.g (pgNi i) NI_INFO_CUR

/-- The SRC that NI `i` writes (R18, R35). -/
def srcId (i : Nat) : Nat := if i = 215 then 0x1FF else i
/-- The NI behind a SRC or DST identity. -/
def niOfId (s : Nat) : Nat := if s = 0x1FF then 215 else s

/-! ### Packets that a unit sends itself -/

/-- Put a packet into the class queue of NI `i`'s injection links. -/
def Block.enqueue (b : Block) (i : Nat) (p : Packet) : Block :=
  (b.modNi i (fun x => { x with tx := AMap.set [] x.tx p.cls (x.queue p.cls ++ [p]) })).refreshInj i

/-- Inject a commit-class or EVENT packet, which takes no tag. Bound for a target that is not REACHABLE it is not injected
(R75); the second component says whether it was. -/
def Block.sendUnit (b : Block) (i : Nat) (p : Packet) : Block × Bool :=
  if b.niLive i && b.reach i p.dst == rchOK then
    ((b.enqueue i { p with src := srcId i, rep := b.niEpoch i }).addBal i (b.niEpoch i) 1, true)
  else (b, false)

/-- A commit-class packet (R40). -/
def commitPkt (opc dst cseq slot : Nat) (bytes : List Byte) (first : Nat := 0) (qos : Nat := 15) : Packet :=
  { dst, src := 0, opc, cls := cCMT, qos, mid := commitAddr cseq first slot, len := bytes.length - 1,
    flits := packData bytes (ceilDiv bytes.length 16) }

/-- Inject the response to a request that NI `i` has served (R34, R70, R71). -/
def Block.sendResponse (b : Block) (i : Nat) (q : Packet) (status : Nat) (bytes : List Byte) (poison : List Nat := []) : Block :=
  let cur := b.niEpoch i
  let rep := if b.reach i (niOfId q.src) = rchOK then cur else q.rep
  let n := dataFlitCount (rspOp q.opc) q.len status
  let data := (packData (bytes.take (q.len + 1)) n).zipIdx.map (fun f => (f.1.1, poison.contains f.2))
  let p : Packet := { mid := q.stamp * 2 ^ 16 + status % 16, dst := q.src, src := srcId i, opc := rspOp q.opc, cls := cRSP,
                      qos := q.qos, len := q.len, tag := q.tag, rep := rep, flits := data }
  let b := if rep = q.rep then b else (b.addBal i q.rep (-1)).addBal i rep 1
  (b.enqueue i p).cntNi i (cSERVED status)

/-! ### Sampling (15 R461) -/

def classBit (c : Nat) : Nat := if c = cTC then 0 else if c = cREQ then 1 else 2

/-- Is the transaction that the endpoint issues now selected? -/
def Block.sampleNext (b : Block) (i : Nat) (r : Request) : Bool × Block :=
  let pg := pgNi i
  let elig := b.on pg NI_SAMPLE_EN && bit (b.g pg NI_SAMPLE_CLASSES) (classBit r.cls) && decide (1 ≤ r.cls) && r.cls != cCMT &&
    (nonPosted r.opc || (r.opc == oWRP && b.on pg NI_SAMPLE_POSTED))
  if !elig then (false, b)
  else
    let n := (b.ni i).sampleN
    if b.g pg NI_SAMPLE_RATE_RATE ≤ n then (true, (b.modNi i (fun x => { x with sampleN := 0 })).cntNi i cSAMPLED)
    else (false, b.modNi i (fun x => { x with sampleN := n + 1 }))

/-! ### Tags and space (R269, R270) -/

/-- Flits of response space that a request reserves. -/
def spaceFor (r : Request) : Nat :=
  if r.opc = oRD then 1 + ceilDiv (r.len + 1) 16 else if r.opc = oADD ∨ r.opc = oSWAP then 2 else 1

/-- WRP, the commit opcodes and EVENT take neither tag nor space. -/
def takesTag (o : Nat) : Bool := !(o == oWRP || isCommitOp o || o == oEVENT)

/-- Space in use. -/
def Ni.spaceUsed (x : Ni) : Nat := (x.txns.map (fun t => t.space)).foldl (· + ·) 0

/-- Is tag `t` taken: by a transaction that has not ended, or held out of use (R272, R273)? -/
def Ni.tagBusy (x : Ni) (t : Nat) : Bool := x.txns.any (fun y => y.tag == t) || x.heldTags.any (fun h => h.1 == t)

-- DESIGN CHOICE (notes/assumptions/12.md)
/-- The lowest free tag (the choice of a tag is the NI's, R33; notes/assumptions/12.md). -/
def freeTag (i : Nat) (x : Ni) : Option Nat := (List.range (tagCount i)).find? (fun t => !x.tagBusy t)

/-! ### Checks before injection (R37, R50 steps 1 and 2) -/

/-- DST of a request: from the address map, or named by its unit (R36). -/
def requestDst (r : Request) : Option Nat :=
  if [oRD, oWR, oWRP, oADD, oSWAP].contains r.opc then dstOf r.addr else if r.dst < 215 then some r.dst else none

def requestOk (i : Nat) (r : Request) : Bool :=
  legalOp r.opc && !isResponse r.opc && classFor r.opc r.cls && maySend i r.opc &&
    (match requestDst r with | some d => decide (d < 215) | none => false)

def isPageAddr (a : Nat) : Bool := match area a with | .page _ _ => true | _ => false

/-- What a source NI does with a request it has taken. -/
inductive Verdict where
  | answer (status : Nat)
  | inject (dst : Nat)
deriving DecidableEq, Repr

/-- Does NI `i` answer its endpoint locally: not live (R69), or an NI of SD on its way out (13 R397)? -/
def Block.niShut (b : Block) (i : Nat) : Bool :=
  !b.niLive i || (domOfNi i == domSD && decide (1 ≤ b.domPhase domSD) && decide (b.domPhase domSD ≤ 7))

-- DEDUCED (notes/assumptions/82.md)
/-- The check of DST against the map (R69, R75, R407). -/
def Block.sourceVerdict (b : Block) (i : Nat) (r : Request) : Verdict :=
  match requestDst r with
  | none => .answer stDECODE
  | some d =>
    if !requestOk i r then .answer stDECODE
    else if b.niShut i then .answer stOFF
    else
      let c := b.reach i d
      if c = rchOK then .inject d
      else if c = rchOFF then
        (if r.opc = oRD ∧ isPageAddr r.addr ∧ b.reach i 212 = rchOK then .inject 212 else .answer stOFF)
      else if c = rchBUSY then .answer stBUSY
      else .answer stUNREACH

/-- The request as a packet of NI `i`. -/
def Block.requestPacket (b : Block) (i d tag : Nat) (r : Request) : Packet :=
  { mid := r.addr % 2 ^ 48, dst := d, src := srcId i, opc := r.opc, cls := r.cls, qos := r.qos, len := r.len, tag := tag,
    rep := b.niEpoch i,
    flits := (packData (r.data.take (r.len + 1)) (dataFlitCount r.opc r.len 0)).zipIdx.map (fun f => (f.1.1, r.bad.contains f.2)) }

/-- Does a request whose target entry reads OFF ask for a wake (R76)? -/
def Block.requestWake (b : Block) (i : Nat) (r : Request) : Block :=
  match requestDst r with
  | some d => if requestOk i r && !b.niShut i && b.reach i d == rchOFF then b.wakeByRequest (domOfNi d) else b
  | none => b

/-- A header stamp that NI `i` takes, by the cell of its (first) node (00 R8; 05 R144). -/
def Block.hdrStampAt (b : Block) (i : Nat) : Nat := b.cellHdr (facing i 0).1

/-- The header of an answer that a source NI gives itself: SRC is the request's DST (R75). -/
def Block.localHdr (b : Block) (i : Nat) (q : Packet) (st : Nat) : Packet :=
  { stamp := b.hdrStampAt i, mid := q.stamp * 2 ^ 16 + st % 16, dst := q.src, src := q.dst, opc := rspOp q.opc, cls := cRSP,
    qos := q.qos, len := q.len, tag := q.tag, rep := q.rep, arr := b.hdrStampAt i }

/-- The ABORTED that an NI makes for a transaction (R273, R277). -/
def abortRsp (t : Txn) (since : Nat) : Rsp :=
  { status := stABORT, since := since,
    hdr := { mid := t.pkt.stamp * 2 ^ 16 + stABORT, dst := t.pkt.src, src := t.pkt.dst, opc := rspOp t.pkt.opc, cls := cRSP,
             qos := t.pkt.qos, len := t.pkt.len, tag := t.tag, rep := t.pkt.rep } }

/-- A request that is not injected and has no response: a dropped posted write is counted and logged (R75). -/
def Block.dropPosted (b : Block) (i : Nat) (r : Request) (st : Nat) (beat : Nat) (sampled : Bool) : Block :=
  let b := if r.opc = oWRP then b.cntNi i cWRP_DROP else b.cntNi i cLOCAL
  let b := if r.opc = oWRP ∧ st ≠ stDECODE then b.raise (srcNi i 0) clNI 0 else b
  let p := { b.requestPacket i ((requestDst r).getD 0) 0 r with stamp := b.hdrStampAt i }
  if sampled then b.storeSample i p.headNat beat st else b

/-- A response for the endpoint of NI `i` is ready: it waits to be taken, or, while the endpoint is stuck, its transaction is marked to end
ABORTED (R83, R275). -/
def Block.readyRsp (b : Block) (i : Nat) (t : Txn) (r : Rsp) : Block :=
  b.modNi i (fun x =>
    if b.stuck i then { x with ended := x.ended ++ [{ t with stuck := true, space := 0, rsp := some (abortRsp t 0) }] }
    else { x with txns := x.txns ++ [{ t with rsp := some { r with since := b.elapsed } }] })

/-- The NI takes a request that has its tag and space: it injects it or answers it locally, with a header as a response to it (R75). -/
def Block.issue (b : Block) (i tag : Nat) (r : Request) (beat : Nat) : Block :=
  let sm := b.sampleNext i r
  let b := sm.2
  let pkt (d : Nat) := b.requestPacket i d tag r
  let txn (d : Nat) : Txn := { tag := tag, req := r, pkt := pkt d, space := spaceFor r, beat := beat, sampled := sm.1 }
  let v := b.sourceVerdict i r
  let b := b.requestWake i r
  match v with
  | .inject d =>
    let b := b.addBal i (b.niEpoch i) 1
    if takesTag r.opc then (b.modNi i (fun x => { x with txns := x.txns ++ [txn d] })).enqueue i (pkt d)
    else b.enqueue i { pkt d with issue := if sm.1 then some beat else none }
  | .answer st =>
    if takesTag r.opc then
      let t := { txn ((requestDst r).getD 0) with injected := false }
      let t := { t with pkt := { t.pkt with stamp := b.hdrStampAt i } }
      (b.cntNi i cLOCAL).readyRsp i t { status := st, hdr := b.localHdr i t.pkt st }
    else b.dropPosted i r st beat sm.1

/-- Take the request at the head of a class queue, if its tag and space are there (R271). -/
def Block.takeHead (b : Block) (i c : Nat) : Block :=
  match AMap.get [] (b.ni i).waitq c with
  | [] => b
  | (r, beat) :: rest =>
    let pop (b : Block) : Block := b.modNi i (fun x => { x with waitq := AMap.set [] x.waitq c rest })
    if !takesTag r.opc then (pop b).issue i 0 r beat
    else
      match freeTag i (b.ni i) with
      | none => b
      | some t => if (b.ni i).spaceUsed + spaceFor r ≤ rspSpace i then (pop b).issue i t r beat else b

/-- An endpoint or unit presents a request to its NI (R271, R287). -/
def Block.present (b : Block) (i : Nat) (r : Request) : Block :=
  (b.modNi i (fun x => { x with waitq := AMap.set [] x.waitq r.cls (AMap.get [] x.waitq r.cls ++ [(r, b.cellNow (facing i 0).1)]) })).takeHead i r.cls

/-- Can the endpoint of NI `i` present a request: its NI is powered and its port not held (R284)? -/
def Block.canPresent (b : Block) (i : Nat) : Bool :=
  b.niUp i && !(isLoopNi i && b.on (pgNi i) NI_LP_STAT_HELD) && !(isHostPort i && b.on pgPM (PM_DOMAIN_HELD domSD))

/-! ### REQUEST_INJECT (R75) -/

def Block.requestInject (b : Block) (i c : Nat) (r : Option Request) : Block :=
  match r with
  | none => if b.niUp i then b.takeHead i c else b
  | some r => if b.canPresent i then b.present i { r with cls := c } else b

def execRequestInject (ni cls : Nat) (r : Option Request) (s : State) : Host.Outcome State Fault Refusal :=
  need (isNi ni) (runB (fun b => b.requestInject ni cls r) s)

/-! ### RESPONSE_ACCEPT (R47) -/

/-- Take the first arrived packet that `p` holds of. -/
def takeFirst {α : Type} (p : α → Bool) : List α → Option (α × List α)
  | [] => none
  | x :: xs => if p x then some (x, xs) else (takeFirst p xs).map (fun r => (r.1, x :: r.2))

/-- Does the transaction wait for this response? -/
def Txn.awaits (t : Txn) (tag : Nat) : Bool := t.tag == tag && t.injected && t.rsp.isNone

/-- The transaction that awaits a response of this tag ends or gets its response, as `f` says. -/
def Block.endTxn (b : Block) (i : Nat) (t : Txn) (f : Block → Txn → Block) : Block :=
  f (b.modNi i (fun x => { x with txns := x.txns.erase t })) t

/-- An NI takes a response packet and matches it by TAG (R46-R48, R275). -/
def Block.takeResponse (b : Block) (i : Nat) (p : Packet) : Block :=
  match (b.ni i).txns.find? (fun t => t.awaits p.tag) with
  | none => (b.cntNi i cRX_DISCARD).raise (srcNi i 0) clNI 0
  | some t =>
    if p.flits.length ≠ dataFlitCount p.opc p.len p.status then (b.cntNi i cRX_DISCARD).raise (srcNi i 0) clNI 1
    else
      let bad := 0xC ≤ p.status
      let b := if bad then b.raise (srcNi i 0) clNI 1 else b
      let st := if bad then stDECODE else if p.opc == oRSP_RD && p.poisoned then stPOISON else p.status
      let b := if b.stuck i then b.cntNi i cRX_DISCARD else b
      b.endTxn i t (fun b t => b.readyRsp i t
        { status := st, bytes := p.bytes (min (t.req.len + 1) (16 * p.flits.length)), hdr := p })

def Block.responseAccept (b : Block) (i : Nat) : Block :=
  match takeFirst (fun p => isResponse p.opc) (b.ni i).rx with
  | none => b
  | some (p, rest) => (b.modNi i (fun x => { x with rx := rest })).takeResponse i p

def execResponseAccept (ni : Nat) (s : State) : Host.Outcome State Fault Refusal :=
  need (isNi ni) (runB (fun b => b.responseAccept ni) s)

/-! ### RESPONSE_DELIVERED (R272) -/

/-- DBG_ACCESS takes its response (19 R541). -/
def Block.debugTakes (b : Block) (st : Nat) (bytes : List Byte) : Block :=
  { b with dbg := { b.dbg with busy := false, status := st,
                               data := if bytes = [] then b.dbg.data else BitVec.ofNat 32 (leNat bytes) } }

/-- What the NI puts on the response channel of its port (R278, R287). -/
def rspBeat (i : Nat) (t : Txn) (r : Rsp) : RspBeat :=
  { id := t.req.id, status := r.status, reqStamp := t.pkt.stamp % 2 ^ 32, arrStamp := r.hdr.arr,
    data := dataBeats (beatWidth i) r.bytes }

/-- The transaction whose response the endpoint takes when it takes one with tag `t`: one marked under R275 before any other (R277), and
nothing while the endpoint is stuck. -/
def Block.deliverable (b : Block) (i t : Nat) : Option Txn :=
  let x := b.ni i
  if b.stuck i then none
  else if x.ended.any (fun y => y.stuck) then x.ended.find? (fun y => y.stuck && y.tag == t)
  else match x.ended.find? (fun y => y.tag == t) with
    | some y => some y
    | none => x.txns.find? (fun y => y.tag == t && y.rsp.isSome)

/-- A beat passes on channel `c` toward the endpoint (R274). -/
def Block.beatPasses (b : Block) (i c : Nat) : Block :=
  b.modNi i (fun x => { x with passed := AMap.set 0 x.passed c b.elapsed })

/-- The endpoint takes the last beat of the response with tag `t`. -/
def Block.responseDelivered (b : Block) (i t : Nat) : Block :=
  match b.deliverable i t with
  | none => b
  | some x =>
    let rsp := x.rsp.getD (abortRsp x b.elapsed)
    let b := (b.modNi i (fun y => { y with txns := y.txns.erase x, ended := y.ended.erase x,
                                           outRsp := some (rspBeat i x rsp) })).beatPasses i 2
    let b := b.cntNi i (cDONE rsp.status)
    let b := if x.sampled then b.storeSample i x.pkt.headNat x.beat rsp.status else b
    if i = 215 then b.debugTakes rsp.status rsp.bytes else b

/-! ### RESPONSE_TIMEOUT and TAG_HOLD_EXPIRY (R273) -/

/-- 2 ms in 1/256 ns. -/
def twoMs : Nat := 2000000 * 256

/-- The response timer of tag `t` expires: ABORTED goes to the endpoint, the space is free, the tag rests 2 ms. -/
def Block.responseTimeout (b : Block) (i t : Nat) : Block :=
  match (b.ni i).txns.find? (fun x => x.awaits t && x.issued.isSome) with
  | none => b
  | some x =>
    let b := b.until (x.issued.getD 0 + x.limit)
    b.modNi i (fun y => { y with
      txns := y.txns.erase x,
      ended := y.ended ++ [{ x with rsp := some (abortRsp x b.elapsed), space := 0, stuck := b.stuck i }],
      heldTags := y.heldTags ++ [(t, b.elapsed + twoMs)] })

def execResponseTimeout (ni tag : Nat) (s : State) : Host.Outcome State Fault Refusal :=
  need (isNi ni) (runB (fun b => b.responseTimeout ni tag) s)

def Block.tagHoldExpiry (b : Block) (i t : Nat) : Block :=
  match (b.ni i).heldTags.find? (fun h => h.1 == t) with
  | none => b
  | some h => (b.until h.2).modNi i (fun y => { y with heldTags := y.heldTags.filter (fun z => z.1 != t) })

def execTagHoldExpiry (ni tag : Nat) (s : State) : Host.Outcome State Fault Refusal :=
  need (isNi ni) (runB (fun b => b.tagHoldExpiry ni tag) s)

/-! ### Local answers of units that write to a host port -/

/-- A posted write or write of a unit, cut into one packet (R36). -/
def writeReq (opc cls qos addr : Nat) (data : List Byte) : Request := { opc, cls, qos, addr, len := data.length - 1, data }

/-- A MSG of a unit to host port `hp` (06 R195; 16 R491): it lands at the start of the host port's window. -/
def msgReq (hp : Nat) (data : List Byte) : Request :=
  { opc := oMSG, cls := cMGT, addr := 0x100000000 + (200 + hp) * 0x100000000, dst := 200 + hp, len := data.length - 1, data }

/-! ### Events on their way to the collector (12 R360, R361) -/

/-- The NIs of the always-on domain (00 R20). -/
def aoNis : List Nat := [205, 207, 208, 210, 212, 214]

/-- The NI of an event's origin: the NI itself, or the one that serves the unit's page. -/
def eventNi (src : Nat) : Nat := if 448 ≤ src ∧ src < 880 then (src - 448) / 2 else servingNi (pageOfSource src)

/-- Does an event of `src` go by packet: its origin is neither a node nor an always-on unit, and finds NI 208 REACHABLE? -/
def Block.byPacket (b : Block) (src : Nat) : Bool :=
  decide (448 ≤ src) && !aoNis.contains (eventNi src) && b.niLive (eventNi src) && b.reach (eventNi src) 208 == rchOK

/-- The payload of an EVENT. -/
def eventBytes (e : Event) (lvl line : Nat) : List Byte :=
  leBytes 16 (line + e.src * 2 ^ 8 + e.cls * 2 ^ 24 + lvl * 2 ^ 28 + e.merged * 2 ^ 32 + e.detail * 2 ^ 48 +
    e.stamp.toNat * 2 ^ 64)

/-- The event that a payload carries. -/
def eventOf (bs : List Byte) : Event :=
  let n := leNat bs
  { src := bitsOf n 8 10, cls := bitsOf n 24 4, lvl := bitsOf n 28 2, merged := bitsOf n 32 8, detail := bitsOf n 48 16,
    stamp := BitVec.ofNat 64 (n / 2 ^ 64) }

/-- An EVENT packet in MGT to NI `dst`. -/
def eventPkt (dst : Nat) (bs : List Byte) : Packet := { dst, src := 0, opc := oEVENT, cls := cMGT, len := 15, flits := packData bs 1 }

-- DEDUCED (notes/assumptions/104.md)
/-- The events that NI `i` is to send become EVENT packets in its MGT queue. -/
def Block.sendEvents (b : Block) (i : Nat) : Block :=
  let mine (e : Event) : Bool := eventNi e.src == i && b.byPacket e.src
  (b.events.filter mine).foldl (fun b e => (b.sendUnit i (eventPkt 208 (eventBytes e e.lvl 0))).1)
    { b with events := b.events.filter (fun e => !mine e) }

/-! ### OUTPUT_ARBITRATION (R95) -/

def Block.arbitrate (b : Block) : Port → Block
  | .node n p => (((b.dueArb n).arbNode n p).driveNode n p).refreshCand n
  | .ni i a => ((((b.dueArb (facing i a).1).sendEvents i).arbNi i a).driveNi i a).refreshInj i

def execOutputArbitration (s : Port) (st : State) : Host.Outcome State Fault Refusal :=
  need (portOk s) (runB (fun b => b.arbitrate s) st)

end Sys2Proof.Machine
end

