-- ==== Sys2Proof/Machine/Evidence.lean ====
section
/-! DEFINITION. The evidence log: records, chain, checkpoints, gaps, draining, and its commands RECORD_FORM to TAIL_RELEASE
(08 R234-R266). -/
namespace Sys2Proof.Machine

/-! ### Record data that waits (R242) -/

def tyCOMMIT : Nat := 1
def tySTEP : Nat := 2
def tyGAP : Nat := 3
def tyBOOT : Nat := 4
def tyLIFECYCLE : Nat := 5
def tySAFE : Nat := 6
def tyDEBUG_DENIED : Nat := 7
def tyCART_CHANGE : Nat := 8
def tyCHECKPOINT : Nat := 9

/-- `len` bytes with each field's bytes at its offset, zero elsewhere. -/
def layBytes (len : Nat) (fs : List (Nat × List Byte)) : List Byte :=
  fs.foldl (fun bs f => bs.take f.1 ++ f.2 ++ bs.drop (f.1 + f.2.length)) (List.replicate len 0)

/-- A body of 160 bytes; offsets are those of the record, from 0x40. -/
def recBody (fs : List (Nat × List Byte)) : List Byte := layBytes 160 (fs.map (fun f => (f.1 - 0x40, f.2)))

/-- The order in which records whose data is ready in the same update are taken (R242). -/
def recRank (typ : Nat) : Nat := [tyCHECKPOINT, tyGAP, tySAFE, tySTEP, tyBOOT, tyCART_CHANGE, tyDEBUG_DENIED, tyCOMMIT].idxOf typ

/-- Put data into the queue: in the order in which it became ready, and of one instant in R242's order. -/
def insertRec (d : RecData) : List RecData → List RecData
  | [] => [d]
  | x :: xs => if x.ready = d.ready ∧ recRank d.typ < recRank x.typ then d :: x :: xs else x :: insertRec d xs

/-- Data for a record is ready. -/
def Block.pushRec (b : Block) (typ : Nat) (body : List Byte) (reserved : Bool := false) : Block :=
  let d : RecData := { typ := typ, body := body, reserved := reserved, ready := b.elapsed }
  { b with evl := { b.evl with queue := insertRec d b.evl.queue } }

/-- A debug or service-port access was refused LOCKED: at most one DEBUG_DENIED record in 1 ms (R241). -/
def Block.debugDenied (b : Block) (addr opc len dst : Nat) : Block :=
  let soon := match b.evl.dbgAt with | some t => decide (b.elapsed < t + 256000000) | none => false
  if soon then { b with evl := { b.evl with suppressed := b.evl.suppressed + 1 } }
  else
    let b := b.pushRec tyDEBUG_DENIED (recBody
      [(0x40, leBytes 8 addr), (0x48, leBytes 1 opc), (0x49, leBytes 1 len), (0x4A, leBytes 2 dst),
       (0x4C, leBytes 4 b.evl.suppressed)])
    { b with evl := { b.evl with dbgAt := some b.elapsed, suppressed := 0 } }

/-- Outcomes that wait in the CSQ's queue (06 R195). -/
def Block.outcomesWaiting (b : Block) : Nat := (b.evl.queue.filter (fun d => d.typ == tyCOMMIT)).length

/-! ### Room (R250) -/

def Block.evlHeld (b : Block) : Nat :=
  ((b.g pgEVL EVL_HEAD_P) + 2 ^ 32 - b.g pgEVL EVL_TAIL_P) % 2 ^ 32

def Block.evlFree (b : Block) : Nat := 32768 - b.evlHeld - b.evl.resv

/-! ### Keys (R246) -/

def zero32 : List Byte := List.replicate 32 0
def Block.hmacKey (b : Block) : List Byte := match b.evl.keys with | some k => k.hmac | none => zero32

def keyIdOf (pub : List Byte) : Nat :=
  let n := leNat ((sha256 pub).take 2)
  if n = 0 then 1 else n

def Block.keyId (b : Block) : Nat := match b.evl.keys with | some k => keyIdOf k.pub | none => 0

/-- Put keys, or none, into use: KEY_STATE, EVL_PUBKEY and KEY_ID follow. -/
def Block.useKeys (b : Block) (k : Option Keys) : Block :=
  let pub := match k with | some k => k.pub | none => zero32
  let b := (List.range 8).foldl (fun b j => b.wr pgEVL (EVL_PUBKEY + 4 * j) (BitVec.ofNat 32 (leNat (sliceBytes pub (4 * j) 4)))) b
  let b := { b with evl := { b.evl with keys := k } }
  (b.s pgEVL EVL_STATUS_KEY_STATE (if k.isSome then 2 else 0)).s pgEVL EVL_CKPT_KEY_ID b.keyId

/-! ### Forming a record (R235, R237, R238) -/

def Block.chainCtr (b : Block) : Nat := b.lc.powerEpoch * 2 ^ 48 + b.evl.index % 2 ^ 48

/-- Header and body: bytes 0x00-0xDF. -/
def Block.recHead (b : Block) (typ : Nat) (body : List Byte) : List Byte :=
  layBytes 0x40
    [(0x00, leBytes 1 typ), (0x01, leBytes 1 1), (0x02, leBytes 2 b.keyId), (0x04, leBytes 4 (b2n (b.lc.powerEpoch == 65535))),
     (0x08, leBytes 8 b.chainCtr), (0x10, leBytes 8 b.stamp), (0x18, leBytes 1 b.frac), (0x19, leBytes 1 b.timeStatus),
     (0x1A, leBytes 1 b.lcState), (0x20, sliceBytes b.evl.lastMac 0 32)] ++ sliceBytes body 0 160

def fullWarn (b : Block) : Nat := max 1 (b.g pgEVL EVL_POLICY_FULL_WARN) * 2048

def logAddr (p : Nat) : Nat := evlAddr + 256 * (p % 32768)

/-- Store the finished record and move the chain on. -/
def Sys.storeRecord (w : Sys) (r : List Byte) : Sys :=
  let p := w.blk.g pgEVL EVL_HEAD_P
  let w := w.write (logAddr p) r
  w.upd (fun b =>
    let mac := r.drop 0xE0
    let b := { b with evl := { b.evl with index := b.evl.index + 1, lastMac := mac, run := b.evl.run ++ [r] } }
    let b := (b.wr pgEVL 0x048 (BitVec.ofNat 32 (p + 1))).s64 pgEVL EVL_CHAIN_CTR b.chainCtr
    let b := (List.range 8).foldl (fun b j =>
      b.wr pgEVL (EVL_HEAD_MAC + 4 * j) (BitVec.ofNat 32 (leNat (sliceBytes mac (4 * j) 4)))) b
    let b := if b.evlHeld = fullWarn b then b.raise (srcEVL 0) clCOMMIT 1 else b
    if 4096 ≤ b.evl.run.length ∧ b.evl.due = none then { b with evl := { b.evl with due := some 1 } } else b)

def Sys.formRecord (w : Sys) (typ : Nat) (body : List Byte) : Sys :=
  let head := w.blk.recHead typ body
  w.storeRecord (head ++ hmac w.blk.hmacKey head)

/-! ### Gaps (R252, R253) -/

def Block.lcInvalid (b : Block) : Bool := b.on pgTOP TOP_LC_STATE_INVALID
def Block.logEnabled (b : Block) : Bool := b.on pgEVL EVL_POLICY_ENABLE
def Block.logActive (b : Block) : Bool := b.on pgEVL EVL_STATUS_ACTIVE

def gapFULL : Nat := 1
def gapDISABLED : Nat := 2
def gapENABLED : Nat := 3
def gapINVALID : Nat := 4

-- DEDUCED (notes/assumptions/17.md, notes/assumptions/87.md)
/-- Count an omitted record into the open gap, opening one if none is (R252). -/
def Block.omitRec (b : Block) (d : RecData) : Block :=
  let reason := if b.lcInvalid then gapINVALID else if b.logEnabled then gapFULL else gapENABLED
  let b := match b.evl.gap with
    | some _ => b
    | none => (b.raise (srcEVL 0) clCOMMIT 1).s pgEVL EVL_STATUS_GAP_OPEN 1
  let g : Gap := b.evl.gap.getD { reason := reason, opened := BitVec.ofNat 64 b.stamp }
  let id := leNat (d.body.take 4)
  let isC := d.typ == tyCOMMIT
  let g := { g with
    reason := max g.reason reason, omitted := satAdd 32 g.omitted 1, commits := g.commits + b2n isC,
    firstId := if isC && g.commits == 0 then id else g.firstId, lastId := if isC then id else g.lastId,
    data := g.data ++ leBytes 1 d.typ ++ sliceBytes d.body 0 160 }
  { b with evl := { b.evl with gap := some g, resv := b.evl.resv - b2n d.reserved } }

def gapBody (g : Gap) : List Byte :=
  recBody [(0x40, leBytes 1 g.reason), (0x44, leBytes 4 g.omitted), (0x48, leBytes 4 g.commits), (0x4C, leBytes 4 g.firstId),
    (0x50, leBytes 4 g.lastId), (0x58, leBytes 8 g.opened.toNat), (0x60, sha256 g.data)]

/-- May the open gap's record be formed now? -/
def Block.gapReady (b : Block) : Bool :=
  match b.evl.gap with
  | some g => !b.lcInvalid && b.logActive && (b.logEnabled || g.reason == gapFULL) && decide (1 ≤ b.evlFree)
  | none => false

/-- Can the record whose data is `d` be formed now (R250, R251, R253)? -/
def Block.canForm (b : Block) (d : RecData) : Bool :=
  !b.lcInvalid && b.logActive && (b.logEnabled || d.reserved) &&
    (if d.typ = tyCOMMIT then d.reserved || decide (17 ≤ b.evlFree) else if d.typ = tyGAP then decide (1 ≤ b.evlFree)
     else decide (2 ≤ b.evlFree))

-- DEDUCED (notes/assumptions/17.md)
def Block.emptyGap (b : Block) (reason : Nat) : Gap := { reason := reason, opened := BitVec.ofNat 64 b.stamp }

/-! ### RECORD_FORM (R242) -/

def Sys.formGap (w : Sys) (g : Gap) : Sys :=
  (w.formRecord tyGAP (gapBody g)).upd (fun b =>
    { b.s pgEVL EVL_STATUS_GAP_OPEN 0 with evl := { b.evl with gap := none } })

/-- The last act of a disable (R253): the GAP with REASON DISABLED, once no reservation is held. -/
def Sys.formDisabled (w : Sys) : Sys :=
  let b := w.blk
  if b.evl.disabling && b.evl.resv == 0 && !b.lcInvalid && decide (1 ≤ b.evlFree) then
    (w.formRecord tyGAP (gapBody (b.emptyGap gapDISABLED))).upd (fun b =>
      { b.s pgEVL EVL_STATUS_ACTIVE 0 with evl := { b.evl with disabling := false } })
  else w

/-- A due checkpoint goes before every waiting record (R243). The hand-over checkpoint is skipped while the log is disabled (R248). -/
def Block.dueFirst (b : Block) : Bool :=
  b.evl.due.isSome && b.logActive && !b.lcInvalid && (b.logEnabled || b.evl.due != some 4)

/-- The EVL takes up the next ready record. A due checkpoint goes first and has its own command. From the hand-over checkpoint of a
life-cycle change on, it forms nothing, and what is ready waits (16 R488); nothing comes before the BOOT record of a PORST. -/
def Sys.recordForm (w : Sys) : Sys :=
  let b := w.blk
  if !b.evl.booted || b.dueFirst || (b.lc.handed && !b.lcInvalid) then w
  else
    match b.gapReady, b.evl.gap with
    | true, some g => w.formGap g
    | _, _ =>
      match b.evl.queue with
      | [] => w.formDisabled
      | d :: rest =>
        let w := w.upd (fun b => { b with evl := { b.evl with queue := rest } })
        if b.canForm d then
          (w.formRecord d.typ d.body).upd (fun b => { b with evl := { b.evl with resv := b.evl.resv - b2n d.reserved } })
        else w.upd (fun b => b.omitRec d)

def execRecordForm (s : State) : Host.Outcome State Fault Refusal := run Sys.recordForm s

/-! ### CHECKPOINT_FORM (R244, R245) -/

def ckCOUNT : Nat := 1
def ckTIMER : Nat := 2
def ckHOST : Nat := 3
def ckHANDOVER : Nat := 4
def ckANCHOR : Nat := 5

def ringAddr (s : Nat) : Nat := ledgerAddr + 0x3FC000 + 256 * s

/-- CHAIN_CTR of a record's bytes. -/
def recCtr (r : List Byte) : Nat := leNat (sliceBytes r 8 8)

/-- The checkpoint's body without its signature. -/
def Block.ckptBody (b : Block) (reason : Nat) (nextPub : List Byte) : List Byte :=
  recBody [(0x40, leBytes 8 ((b.evl.run.head?.map recCtr).getD b.chainCtr)), (0x48, leBytes 4 b.evl.run.length),
    (0x4C, leBytes 1 reason), (0x50, sha256 b.evl.run.flatten), (0x70, sliceBytes nextPub 0 32)]

/-- Form the due checkpoint: sign it, store it, and write it whole into the ledger ring (R244, R245). -/
def Sys.formCheckpoint (w : Sys) (reason : Nat) (nextPub : List Byte) (readBackOk : Bool) : Sys :=
  let b := w.blk
  let body := b.ckptBody reason nextPub
  let signed := b.recHead tyCHECKPOINT body
  let sig := match b.evl.keys with
    | some k => edSign k.seed k.pub (signed.take 0xA0)
    | none => List.replicate 64 0
  let head := signed.take 0xA0 ++ sig
  let r := head ++ hmac b.hmacKey head
  let w := w.storeRecord r
  let slot := w.blk.evl.ringNext
  let w := w.write (ringAddr slot) r
  w.upd (fun b =>
    let b := (b.s pgEVL EVL_CKPT_NEWEST slot).s pgEVL EVL_CKPT_RING_VALID 1
    let b := { b with evl := { b.evl with
      run := [r], firstCtr := recCtr r, lastCkpt := some b.elapsed, timerAt := some (b.elapsed + secUnits), due := none,
      ringNext := (slot + 1) % 64 } }
    if readBackOk then b else (b.s pgEVL EVL_STATUS_CKPT_WR_ERR 1).raise (srcEVL 2) clLEDGER 1)

-- DEDUCED (notes/assumptions/60.md)
/-- The hand-over checkpoint of a life-cycle change (R248 step 2): from it on, the log forms nothing (16 R488). -/
def Sys.formHandover (w : Sys) (readBackOk : Bool) : Sys :=
  let ctr := w.blk.chainCtr
  (w.formCheckpoint ckHANDOVER ((w.blk.evl.nextKeys.map (fun k => k.pub)).getD zero32) readBackOk).upd (fun b =>
    { b with evl := { b.evl with handover := ctr }, lc := { b.lc with handed := true } })

/-- A due checkpoint is formed, or omitted where the log has no room or forms nothing; a hand-over checkpoint waits for room. -/
def Sys.checkpointForm (w : Sys) (readBackOk : Bool) : Sys :=
  let b := w.blk
  match b.evl.due with
  | none => w
  | some reason =>
    let d : RecData := { typ := tyCHECKPOINT, body := b.ckptBody reason [] }
    if !b.evl.booted || (b.lc.handed && !b.lcInvalid) then w
    else if b.canForm d then
      (if reason = ckHANDOVER then w.formHandover readBackOk else w.formCheckpoint reason [] readBackOk)
    else if reason = ckHANDOVER then w
    else w.upd (fun b => { b.omitRec d with evl := { (b.omitRec d).evl with due := none } })

def execCheckpointForm (readBackOk : Bool) (s : State) : Host.Outcome State Fault Refusal :=
  run (fun w => w.checkpointForm readBackOk) s

/-! ### CHECKPOINT_TIMER, CHECKPOINT_REQUEST, CHECKPOINT_HOLD_EXPIRY (R243) -/

def Block.makeDue (b : Block) (reason : Nat) : Block :=
  { b with evl := { b.evl with due := some (b.evl.due.getD reason) } }

def Block.evlFull (b : Block) : Bool := decide (b.evlFree ≤ 16)

def Block.checkpointTimer (b : Block) : Block :=
  match b.evl.timerAt with
  | none => b
  | some t =>
    let b := b.until t
    let b := { b with evl := { b.evl with timerAt := some (t + secUnits) } }
    if b.evlFull then b else b.makeDue ckTIMER

def execCheckpointTimer (s : State) : Host.Outcome State Fault Refusal := runB Block.checkpointTimer s

/-- 10 ms in 1/256 ns. -/
def tenMs : Nat := 10000000 * 256

def Block.checkpointRequest (b : Block) : Block :=
  match b.evl.lastCkpt with
  | some t => if b.elapsed < t + tenMs then { b with evl := { b.evl with ckptHeld := true } } else b.makeDue ckHOST
  | none => b.makeDue ckHOST

def execCheckpointRequest (s : State) : Host.Outcome State Fault Refusal := runB Block.checkpointRequest s

def Block.checkpointHoldExpiry (b : Block) : Block :=
  if b.evl.ckptHeld then
    let b := match b.evl.lastCkpt with | some t => b.until (t + tenMs) | none => b
    { b.makeDue ckHOST with evl := { (b.makeDue ckHOST).evl with ckptHeld := false } }
  else b

def execCheckpointHoldExpiry (s : State) : Host.Outcome State Fault Refusal := runB Block.checkpointHoldExpiry s

/-! ### LOG_DISABLE and LOG_ENABLE (R253) -/

/-- A write to an EVL register is ignored (R258). -/
def Block.evlRefused (b : Block) : Block := (b.s pgEVL EVL_STATUS_WR_REFUSED 1).raise (srcEVL 3) clCOMMIT 0

-- DEDUCED (notes/assumptions/103.md)
/-- A write of ENABLE 0. -/
def Block.logDisable (b : Block) : Block :=
  if b.on pgEVL EVL_POLICY_LOCK then b.evlRefused
  else if !b.logEnabled then b
  else
    let b := (b.s pgEVL EVL_POLICY_ENABLE 0).raise (srcEVL 1) clSEC 0 noSrc
    { b with evl := { b.evl with disabling := true } }

def execLogDisable (s : State) : Host.Outcome State Fault Refusal := runB Block.logDisable s

-- DEDUCED (notes/assumptions/103.md)
/-- A write of ENABLE 1. -/
def Block.logEnable (b : Block) : Block :=
  if b.on pgEVL EVL_POLICY_LOCK then b.evlRefused
  else if b.logEnabled then b
  else
    let b := ((b.s pgEVL EVL_POLICY_ENABLE 1).s pgEVL EVL_STATUS_ACTIVE 1).raise (srcEVL 1) clSEC 0 noSrc
    let g := b.evl.gap.getD (b.emptyGap gapENABLED)
    { b with evl := { b.evl with disabling := false, gap := some { g with reason := gapENABLED } } }

def execLogEnable (s : State) : Host.Outcome State Fault Refusal := runB Block.logEnable s

/-! ### DRAIN_ENABLE and DRAIN_SEND (R254, R264) -/

def Block.drainLog2 (b : Block) : Nat := clamp 10 24 (b.g pgEVL EVL_DRAIN_RING_LOG2)

/-- BASE as it is used: bits below the ring's size are ignored. -/
def Block.drainBase (b : Block) : Nat :=
  let sz := 256 * 2 ^ b.drainLog2
  b.g64 pgEVL EVL_DRAIN_BASE % 2 ^ 48 / sz * sz

def inHostWindows (a : Nat) : Bool := decide (0xC900000000 ≤ a) && decide (a < 0xCD00000000)

/-- What follows a write of EVL_DRAIN or EVL_DRAIN_BASE; `was` is EN before it. -/
def Block.drainChecked (b : Block) (was : Bool) : Block :=
  if !b.on pgEVL EVL_DRAIN_EN then b
  else if !inHostWindows (b.g64 pgEVL EVL_DRAIN_BASE % 2 ^ 48) then (b.s pgEVL EVL_DRAIN_EN 0).evlRefused
  else if was then b
  else b.wr pgEVL 0x054 (b.rd pgEVL 0x04C)

/-- A write of `v` to EVL_DRAIN. -/
def Block.drainEnable (b : Block) (v : Word) : Block :=
  let n := v.toNat
  let was := b.on pgEVL EVL_DRAIN_EN
  (((b.s pgEVL EVL_DRAIN_EN (bitsOf n 0 1)).s pgEVL EVL_DRAIN_QOS (bitsOf n 4 4)).s pgEVL EVL_DRAIN_RING_LOG2
    (bitsOf n 8 5)).drainChecked was

def execDrainEnable (w : Word) (s : State) : Host.Outcome State Fault Refusal := runB (fun b => b.drainEnable w) s

/-- May record EVL_DRAIN_PTR be sent (R254)? -/
def Block.drainReady (b : Block) : Bool :=
  let p := b.g pgEVL EVL_DRAIN_PTR_P
  let behind := (p + 2 ^ 32 - b.g pgEVL EVL_TAIL_P) % 2 ^ 32
  b.on pgEVL EVL_DRAIN_EN && decide (behind < b.evlHeld) && decide (behind < 2 ^ b.drainLog2) &&
    (match area b.drainBase with | .window i _ => b.niLive 205 && b.reach 205 i == rchOK | _ => false)

def Sys.drainSend (w : Sys) : Sys :=
  if !w.blk.drainReady then w
  else
    let p := w.blk.g pgEVL EVL_DRAIN_PTR_P
    let a := logAddr p
    let r := w.read a 256
    let w := r.2.2.2
    let good := hmac w.blk.hmacKey (r.1.take 0xE0) == r.1.drop 0xE0
    let w := if good then w else w.upd (fun b => (b.s pgEVL EVL_STATUS_TAG_ERR 1).raise (srcEVL 1) clSEC 2 noSrc)
    let bad := r.2.2.1.map (fun x => (x - a) / 16)
    w.upd (fun b =>
      let q : Request := { opc := oWRP, cls := cMGT, qos := b.g pgEVL EVL_DRAIN_QOS, len := 255,
                           addr := b.drainBase + 256 * (p % 2 ^ b.drainLog2), data := r.1, bad := bad }
      (b.wr pgEVL 0x054 (BitVec.ofNat 32 (p + 1))).present 205 q)

def execDrainSend (s : State) : Host.Outcome State Fault Refusal := run Sys.drainSend s

/-! ### TAIL_RELEASE (R255) -/

/-- A write of `v` to EVL_TAIL. -/
def Block.tailRelease (b : Block) (v : Word) : Block :=
  let tail := b.g pgEVL EVL_TAIL_P
  let d := (v.toNat + 2 ^ 32 - tail) % 2 ^ 32
  if b.evlHeld < d then b.evlRefused
  else
    let ptr := (b.g pgEVL EVL_DRAIN_PTR_P + 2 ^ 32 - tail) % 2 ^ 32
    let b := b.wr pgEVL 0x04C v
    if ptr < d then b.wr pgEVL 0x054 v else b

def execTailRelease (v : Word) (s : State) : Host.Outcome State Fault Refusal := runB (fun b => b.tailRelease v) s

end Sys2Proof.Machine
end

