-- ==== Sys2Proof/Machine/Frames.lean ====
section
/-! DEFINITION. The frame store: sealing, retiring and streaming fronds, and the commands FROND_SEAL to RETIRE_COMPLETE and
STREAM_PACKET_SEND (07 R215-R233). -/
namespace Sys2Proof.Machine

/-! ### Directory entries (R215) -/

structure DirEntry where
  ni : Nat
  count : Nat
  off : Nat
  crc : Nat
deriving DecidableEq, Repr

def dirEntry (bs : List Byte) : DirEntry :=
  { ni := leNat (sliceBytes bs 0 2), count := leNat (sliceBytes bs 2 2), off := leNat (sliceBytes bs 4 3),
    crc := leNat (sliceBytes bs 8 8) }

/-- Flits of a stream of `count` entries, STAGE_END included (R217). -/
def streamFlits (count : Nat) : Nat :=
  17 * (count / 32) + (if count % 32 = 0 then 0 else 1 + ceilDiv (count % 32) 2) + 2

/-- Loop NIs of the west half: their node lies in columns 0-5. -/
def westNi (i : Nat) : Bool := match place i 0 with | some (n, _) => decide (xOf n ≤ 5) | none => false

/-! ### What a seal reads -/

/-- Read, through its code, every word of [lo, hi) that holds anything but clean data. Answers the words so read and whether
one read POISONED. -/
def Sys.readMarked (w : Sys) (lo hi : Nat) : List (Nat × List Byte) × Bool × Sys :=
  let marked := (w.mem.flags.filter (fun e => decide (lo ≤ 16 * e.1) && decide (16 * e.1 < hi) &&
    (e.2.poison || e.2.flips != []))).map (fun e => 16 * e.1)
  marked.foldl (fun acc a =>
    let r := acc.2.2.readWord a
    (acc.1 ++ [(a, r.1)], acc.2.1 || r.2.1 == stPOISON, r.2.2)) ([], false, w)

/-- Bytes as a read delivered them: stored bytes, but for the words in `seen`. -/
def delivered (m : Mem) (seen : List (Nat × List Byte)) (a len : Nat) : List Byte :=
  (List.range len).map (fun j =>
    match seen.find? (fun s => s.1 == wordOf (a + j)) with
    | some s => s.2.getD ((a + j) % 16) 0
    | none => m.byteAt (a + j))

def sealOK : Nat := 0
def sealID_DEFINED : Nat := 1
def sealPLACE : Nat := 2
def sealOVERLAP : Nat := 3
def sealMASK : Nat := 4
def sealDIRECTORY : Nat := 5
def sealPOISONED : Nat := 6
def sealNOT_DEFINED : Nat := 7

/-- Is a directory entry legal, with `seen` the NIs named before it? -/
def dirOk (s : Seal) (seen : List Nat) (e : DirEntry) : Bool :=
  decide (e.ni ≤ 191) && !seen.contains e.ni && decide (1 ≤ e.count) && decide (e.count ≤ 1024) && e.off % 8 == 0 &&
    decide (16 * s.n ≤ e.off) && decide (e.off + 8 * e.count ≤ 1024 * s.size)

def dirsOk (s : Seal) : List Nat → List DirEntry → Bool
  | _, [] => true
  | seen, e :: es => dirOk s seen e && dirsOk s (e.ni :: seen) es

/-- Does granule g of bank k count as TAGGED (R219, R222)? -/
def Sys.tagged (w : Sys) (k g : Nat) : Bool :=
  let f := w.mem.flagsAt (granuleAddr k g / 16)
  bit (w.granule k g) 15 || (f.valid && f.poison)

/-- The checks of R219 that need no read of the segment: the code of the first that fails. -/
def Sys.sealEarly (w : Sys) (k : Nat) (s : Seal) : Option Nat :=
  if (w.desc k s.frond).defined then some sealID_DEFINED
  else if s.size = 0 ∨ 8048 < s.base + s.size then some sealPLACE
  else if (List.range s.size).any (fun g => w.tagged k (s.base + g)) then some sealOVERLAP
  else if !bit s.mask k then some sealMASK
  else if s.n = 0 ∨ 192 < s.n ∨ 1024 * s.size < 16 * s.n then some sealDIRECTORY
  else none

/-- The directory as the seal has read it. -/
def Sys.sealDir (w : Sys) (k : Nat) (s : Seal) : List DirEntry :=
  (List.range s.n).map (fun j => dirEntry (delivered w.mem s.seen (bankAddr k (1024 * s.base) + 16 * j) 16))

/-- The outcome of the seal of bank k, once what it has read decides it. -/
def Sys.sealCheck (w : Sys) (k : Nat) (s : Seal) : Option Nat :=
  match w.sealEarly k s with
  | some c => some c
  | none =>
    if s.done < 16 * s.n then none
    else if !dirsOk s [] (w.sealDir k s) then some sealDIRECTORY
    else if s.done < 1024 * s.size then none
    else if s.poisoned then some sealPOISONED
    else some sealOK

/-- Write each stream's CRC into the directory, tag the granules, write the descriptor (R216, R220). -/
def Sys.sealWrite (w : Sys) (k : Nat) (s : Seal) : Sys :=
  let lo := bankAddr k (1024 * s.base)
  let es := w.sealDir k s
  let body (e : DirEntry) : List Byte := delivered w.mem s.seen (lo + e.off) (8 * e.count)
  let digest := sha256 (es.flatMap (fun e => leBytes 2 e.ni ++ leBytes 2 e.count ++ body e))
  let sum (p : DirEntry → Bool) : Nat := ((es.filter p).map (fun e => streamFlits e.count)).foldl (· + ·) 0
  let d : Desc :=
    { defined := true, intact := !s.touched, pinned := false, retiring := false, mask := s.mask, gen := s.gen, base := s.base,
      size := s.size, n := s.n, flitsW := sum (fun e => westNi e.ni), flitsE := sum (fun e => !westNi e.ni),
      targets := es.foldl (fun m e => m ||| 2 ^ e.ni) 0, digest := digest }
  let crcs := es.zipIdx.map (fun q => (q.2, crc64Of (body q.1)))
  let w := crcs.foldl (fun w q =>
    let a := lo + 16 * q.1
    w.write a ((delivered w.mem s.seen a 16).take 8 ++ leBytes 8 q.2)) w
  let w := (List.range s.size).foldl (fun w g => w.rewrite (granuleAddr k (s.base + g)) (leBytes 2 (0x8000 + s.frond))) w
  w.write (descAddr k s.frond) d.bytes

/-! ### FROND_SEAL, SEAL_COMPLETE (R219, R220, R230, R231) -/

/-- A read of bank `k`'s own logic joins its port's queue: the streamer is requester 2 or 3 by attachment, the seal 4 (04 R107, R108). -/
def Block.joinBank (b : Block) (k who qos : Nat) (j : MemJob) : Block :=
  b.modPort k (fun x => { x with wait := x.wait ++ [{ who := who, qos := qos, job := j }] })

def Block.askSeal (b : Block) (k : Nat) : Block := b.joinBank k 4 (b.g (pgFs k) FS_STREAM_SEAL_QOS) .seal

/-- The port grants the seal of bank `k` its next 256 bytes (R220; 04 R108). -/
def Sys.sealGrant (w : Sys) (k : Nat) : Sys :=
  match (w.blk.fsb k).sealing with
  | none => w
  | some s =>
    let lo := bankAddr k (1024 * s.base) + s.done
    let r := w.readMarked lo (lo + 256)
    let s := { s with done := s.done + 256, seen := s.seen ++ r.1, poisoned := s.poisoned || r.2.1 }
    r.2.2.upd (fun b =>
      let b := b.modFs k (fun f => { f with sealing := f.sealing.map (fun t => { s with touched := t.touched }) })
      if s.done < 1024 * s.size then b.askSeal k else b)

/-- A write of `v` to FS_SEAL_CMD with CMD SEAL: the reads begin if the segment has a place. -/
def Block.frondSeal (b : Block) (k : Nat) (v : Word) : Block :=
  let p := pgFs k
  if b.on p FS_STATUS_SEAL_BUSY then b.s p FS_SEAL_RESULT_REFUSED_BUSY 1
  else
    let id := bitsOf v.toNat 16 10
    let s : Seal := { frond := id, base := b.g p FS_SEAL_ARG0_BASE, size := b.g p FS_SEAL_ARG0_SIZE,
                      n := b.g p FS_SEAL_ARG1_N_STREAMS, mask := b.g p FS_SEAL_ARG1_BANK_MASK, gen := b.g p FS_SEAL_ARG1_GEN }
    let b := (((b.s p FS_STATUS_SEAL_BUSY 1).s p FS_SEAL_RESULT_DONE 0).s p FS_SEAL_RESULT_FROND_ID id).modFs k
      (fun f => { f with sealing := some s })
    if s.size = 0 ∨ 8048 < s.base + s.size then b else b.askSeal k

def execFrondSeal (bank : Nat) (w : Word) (s : State) : Host.Outcome State Fault Refusal :=
  need (decide (bank < 8)) (runB (fun b => b.frondSeal bank w) s)

/-- The last command of bank k has finished with a code. -/
def Block.sealDone (b : Block) (k code : Nat) : Block :=
  let p := pgFs k
  ((b.s p FS_STATUS_SEAL_BUSY 0).s p FS_SEAL_RESULT_DONE 1).s p FS_SEAL_RESULT_CODE code

def Sys.sealComplete (w : Sys) (k : Nat) : Sys :=
  match (w.blk.fsb k).sealing with
  | none => w
  | some s =>
    let lo := granuleAddr k s.base
    let w := (w.readMarked lo (lo + 2 * s.size)).2.2
    match w.sealCheck k s with
    | none => w
    | some c =>
      let w := w.upd (fun b => (b.modFs k (fun f => { f with sealing := none })).modPort k (fun x =>
        { x with wait := x.wait.filter (fun t => t.job != .seal) }))
      (if c = sealOK then w.sealWrite k s else w).upd (fun b => b.sealDone k c)

def execSealComplete (bank : Nat) (s : State) : Host.Outcome State Fault Refusal :=
  need (decide (bank < 8)) (run (fun w => w.sealComplete bank) s)

/-! ### FROND_RETIRE, RETIRE_COMPLETE (R221) -/

/-- A write of `v` to FS_SEAL_CMD with CMD RETIRE. -/
def Sys.frondRetire (w : Sys) (k : Nat) (v : Word) : Sys :=
  let p := pgFs k
  if w.blk.on p FS_STATUS_SEAL_BUSY then w.upd (fun b => b.s p FS_SEAL_RESULT_REFUSED_BUSY 1)
  else
    let id := bitsOf v.toNat 16 10
    let w := w.upd (fun b => b.s p FS_SEAL_RESULT_FROND_ID id)
    if !(w.desc k id).defined then w.upd (fun b => b.sealDone k sealNOT_DEFINED)
    else
      let w := w.loseIntact k id lostRETIRE
      (w.rewrite (descAddr k id) [w.flagByte k id 3 true]).upd (fun b =>
        ((b.s p FS_STATUS_SEAL_BUSY 1).s p FS_SEAL_RESULT_DONE 0).modFs k (fun f => { f with retiring := some id }))

def execFrondRetire (bank : Nat) (w : Word) (s : State) : Host.Outcome State Fault Refusal :=
  need (decide (bank < 8)) (run (fun x => x.frondRetire bank w) s)

def Sys.retireComplete (w : Sys) (k : Nat) : Sys :=
  match (w.blk.fsb k).retiring with
  | none => w
  | some id =>
    let d := w.desc k id
    if d.pinned then w
    else
      let w := (List.range d.size).foldl (fun w g => w.rewrite (granuleAddr k (d.base + g)) [0, 0]) w
      let w := w.write (descAddr k id) (List.replicate 128 0)
      w.upd (fun b => (b.sealDone k sealOK).modFs k (fun f => { f with retiring := none }))

def execRetireComplete (bank : Nat) (s : State) : Host.Outcome State Fault Refusal :=
  need (decide (bank < 8)) (run (fun w => w.retireComplete bank) s)

/-! ### Streams (R226, R227) -/

/-- Stage packets of a stream. -/
def Stream.stages (s : Stream) : Nat := ceilDiv s.count 32

/-- The slot whose turn it is on a queue: slots alternate, and the first in the queue begins. -/
def nextSlot (q : List Stream) (last : Nat) : Option Nat :=
  let slots := (q.map (fun s => s.slot)).eraseDups
  ((List.range 4).map (fun i => (last + 1 + i) % 4)).find? (fun k => slots.contains k)

/-- The stream of slot `k` that sends next: a stream whose STAGEs are all sent sends its STAGE_END, else the stream that has
sent fewest packets, in directory order. -/
def nextStream (q : List Stream) (k : Nat) : Option Stream :=
  let mine := q.filter (fun s => s.slot == k)
  match mine.find? (fun s => s.next == s.stages) with
  | some s => some s
  | none => mine.foldl (fun best s => match best with | none => some s | some t => if s.next < t.next then some s else best) none

-- DEDUCED (notes/assumptions/76.md)
/-- The grants that a read of `len` bytes at `a` takes: four 64-byte bank words each (R215; 04 R108). -/
def grantsFor (a len : Nat) : Nat := ceilDiv ((a + len - 1) / 64 + 1 - a / 64) 4

/-- Where the entries of a stream's next STAGE packet lie, and how many they are. -/
def Stream.nextAddr (s : Stream) : Nat := s.addr + 256 * s.next
def Stream.nextCount (s : Stream) : Nat := min 32 (s.count - 32 * s.next)

/-- The stream that sends next on attachment `a`. -/
def Fs.turn (f : Fs) (a : Nat) : Option Stream := (nextSlot (f.queue a) (AMap.get 3 f.last a)).bind (nextStream (f.queue a))

/-- A streamer's reads of a STAGE packet join the bank port, one grant at a time. -/
def Block.askStream (b : Block) (k a : Nat) : Block := b.joinBank k (2 + a) (b.g (pgFs k) FS_STREAM_QOS) (.stream a)

/-- On each attachment of bank `k` where no read is under way, the read of the next STAGE packet begins. -/
def Block.askReads (b : Block) (k : Nat) : Block :=
  [0, 1].foldl (fun b a =>
    let f := b.fsb k
    match AMap.get none f.reads a, f.turn a with
    | none, some s =>
      if s.next = s.stages then b
      else
        let x : StreamRead := { s := s, left := grantsFor s.nextAddr (8 * s.nextCount) }
        (b.modFs k (fun f => { f with reads := AMap.set none f.reads a (some x) })).askStream k a
    | _, _ => b) b

/-- The port grants a read of the streamer of bank `k` for attachment `a`: what its four bank words hold of the packet (R223). -/
def Sys.streamGrant (w : Sys) (k a : Nat) : Sys :=
  match AMap.get none (w.blk.fsb k).reads a with
  | none => w
  | some x =>
    let lo := x.s.nextAddr + x.bytes.length
    let stop := min (x.s.nextAddr + 8 * x.s.nextCount) (lo / 64 * 64 + 256)
    let r := w.read lo (stop - lo)
    let x := { x with left := x.left - 1, bytes := x.bytes ++ r.1, bad := x.bad ++ r.2.2.1 }
    r.2.2.2.upd (fun b =>
      let b := b.modFs k (fun f => { f with reads := AMap.set none f.reads a (some x) })
      if x.left = 0 then b else b.askStream k a)

-- DEDUCED (notes/assumptions/76.md)
/-- START at bank k for slot `j`: select, pin and queue the streams of frond `id` whose targets are in `targets` (R226). -/
def Sys.startBank (w : Sys) (k j cseq id targets : Nat) : Sys :=
  let d := w.desc k id
  let lo := bankAddr k (1024 * d.base)
  let w := w.upd (fun b =>
    let b := if d.pinned then b else b.modFs k (fun f => { f with dirty := f.dirty.filter (· != id) })
    (b.s (pgFs k) (FS_SLOT_FROND_ID j) id).s (pgFs k) (FS_SLOT_CSEQ j) cseq)
  let w := (List.range d.n).foldl (fun w x =>
    let r := w.read (lo + 16 * x) 16
    let e := dirEntry r.1
    let w := r.2.2.2
    if r.2.1 ≠ stPOISON ∧ bit targets e.ni = true ∧ w.blk.reach (192 + k) e.ni = rchOK then
      w.upd (fun b =>
        let a := b.attachFor (192 + k) { dst := e.ni, src := 192 + k, opc := oSTAGE, cls := cCMT, len := 0,
                                         rep := b.niEpoch (192 + k) }
        let s : Stream := { slot := j, cseq := cseq, frond := id, ni := e.ni, count := e.count, addr := lo + e.off, crc := e.crc }
        b.modFs k (fun f => { f with queues := AMap.set [] f.queues a (f.queue a ++ [s]) }))
    else w.upd (fun b => b.bump (pgFs k) FS_STREAM_STAT_SKIPPED)) w
  w.upd (fun b => b.askReads k)

/-- START to each streamer in `mask`. -/
def Sys.startStreams (w : Sys) (mask j cseq id targets : Nat) : Sys :=
  (having 8 (fun k => bit mask k)).foldl (fun w k => w.startBank k j cseq id targets) w

/-- STOP for slot `j` in every bank: what is queued or read for it is dropped; a packet that its NI holds still goes out (R227). -/
def Block.stopStreams (b : Block) (j : Nat) : Block :=
  (List.range 8).foldl (fun b k =>
    let f := b.fsb k
    let mine (a : Nat) : Bool := (AMap.get none f.reads a).any (fun x => x.s.slot == j)
    let b := b.modFs k (fun f => { f with
      queues := f.queues.foldl (fun m q => AMap.set [] m q.1 (q.2.filter (fun s => s.slot != j))) [],
      reads := f.reads.filter (fun q => !mine q.1) })
    let b := b.modPort k (fun x => { x with wait := x.wait.filter (fun t =>
      match t.job with | .stream a => !mine a | _ => true) })
    b.askReads k) b

/-- The streamer of bank `k` sends its next packet on attachment `a`, once its last one is injected and, for a STAGE, its entries are
read (R223, R226). -/
def Sys.streamPacketSend (w : Sys) (k a : Nat) : Sys :=
  let f := w.blk.fsb k
  if (w.blk.streamOut k a).isSome then w
  else
    let qos := w.blk.g (pgFs k) FS_STREAM_QOS
    let sent (s : Stream) (g : List Stream → List Stream) (b : Block) : Block :=
      (b.modFs k (fun f =>
        { f with queues := AMap.set [] f.queues a (g (f.queue a)), last := AMap.set 3 f.last a s.slot,
                 reads := AMap.set none f.reads a none, flying := AMap.set none f.flying a (some s) })).askReads k
    match AMap.get none f.reads a, f.turn a with
    | some x, _ =>
      if x.left ≠ 0 then w
      else
        let s := x.s
        let dirty := f.dirty.contains s.frond
        let badAt (j : Nat) : Bool := dirty || x.bad.any (fun y =>
          decide (y < s.nextAddr + 16 * j + 16) && decide (s.nextAddr + 16 * j < y + 16))
        let p := commitPkt oSTAGE s.ni s.cseq s.slot x.bytes (32 * s.next) qos
        let p := { p with flits := p.flits.zipIdx.map (fun y => (y.1.1, badAt y.2)) }
        w.upd (fun b =>
          let b := (b.sendUnit (192 + k) p).1
          let b := if p.poisoned then b.bump (pgFs k) FS_STREAM_STAT_POISON_PKTS else b
          sent s (fun q => q.map (fun t => if t = s then { t with next := t.next + 1 } else t)) b)
    | none, some s =>
      if s.next = s.stages then
        let p := commitPkt oSTAGE_END s.ni s.cseq s.slot (leBytes 8 s.count ++ leBytes 8 s.crc) 0 qos
        w.upd (fun b => sent s (fun q => q.erase s) (b.sendUnit (192 + k) p).1)
      else w
    | none, none => w

def execStreamPacketSend (bank att : Nat) (s : State) : Host.Outcome State Fault Refusal :=
  need (decide (bank < 8) && decide (att < 2)) (run (fun w => w.streamPacketSend bank att) s)

end Sys2Proof.Machine
end

