-- ==== Sys2Proof/Machine/Gate.lean ====
section
/-! DEFINITION. The gate manager: the live master-group map, node windows, and swaps of the rule sets, with the commands
MG_MAP_DISTRIBUTE to SWAP_CANCEL (10 R306-R308, R317-R320, R326-R328). -/
namespace Sys2Proof.Machine

/-! ### MG_MAP_DISTRIBUTE and MG_MAP_ACTIVATE (R307) -/

def mapOffsets : List Nat := (List.range 27).map (fun j => 0x080 + 4 * j)

/-- A PG_COMMIT of the GT page: counted, and the shadow map goes out, unless a distribution runs. -/
def Block.mapDistribute (b : Block) : Block :=
  let b := b.wrapInc pgGT PG_COMMIT_COUNT
  if b.on pgGT GT_STATUS_MAP_PEND then b.s pgGT GT_STATUS_WR_REFUSED 1
  else
    let m := mapOffsets.foldl (fun m o => AMap.set (resetWord pgGT o) m o (b.rd pgGT o)) []
    { b.s pgGT GT_STATUS_MAP_PEND 1 with gt := { b.gt with next := some m } }

def execMgMapDistribute (s : State) : Host.Outcome State Fault Refusal := runB Block.mapDistribute s

/-- Distribution is complete now: the map is in use from the first frame boundary at least 16 ns on. -/
def Block.mapActivate (b : Block) : Block :=
  match b.gt.next with
  | none => b
  | some m =>
    let b := b.untilTime (frameBoundaryAfter b.nowNs * 256)
    let b := mapOffsets.foldl (fun b o => b.wrLive pgGT o (AMap.get (resetWord pgGT o) m o)) b
    { b.s pgGT GT_STATUS_MAP_PEND 0 with gt := { b.gt with next := none } }

def execMgMapActivate (s : State) : Host.Outcome State Fault Refusal := runB Block.mapActivate s

/-! ### WINDOW_READ, WINDOW_WRITE, WINDOW_OP_COMPLETE (R318, R327) -/

/-- The fields of GT_WIN_SEL that a write of `v` changes whatever it starts. -/
def Block.writeWinSel (b : Block) (v : Word) : Block :=
  let n := v.toNat
  let b := ((b.s pgGT GT_WIN_SEL_NODE (bitsOf n 0 7)).s pgGT GT_WIN_SEL_WIN (bitsOf n 7 3)).s pgGT GT_WIN_SEL_SET (bitsOf n 10 1)
  if bit n 19 then b.s pgGT GT_WIN_SEL_ERR 0 else b

/-- Can the rhizine chain reach the node's windows? -/
def Block.windowReach (b : Block) (n : Nat) : Bool :=
  isNode n && b.domState (domOfNode n) == 0 && (b.dom (domOfNode n)).up

/-- Is set `s` active for an NI that node `n` serves (R318)? -/
def Block.setInUse (b : Block) (n s : Nat) : Bool :=
  (List.range 3).any (fun j => match localNi n j with | some (i, _) => b.activeSet i == s | none => false)

def Block.winStart (b : Block) (write : Bool) (n s w : Nat) : Block :=
  { b.s pgGT GT_WIN_SEL_BUSY 1 with gt := { b.gt with op := some (write, n, s, w) } }

def Block.windowRead (b : Block) (v : Word) : Block :=
  let busy := b.on pgGT GT_WIN_SEL_BUSY
  let b := b.writeWinSel v
  let n := bitsOf v.toNat 0 7
  if busy then b.s pgGT GT_STATUS_WR_REFUSED 1
  else if !b.windowReach n then b.s pgGT GT_WIN_SEL_ERR 1
  else b.winStart false n (bitsOf v.toNat 10 1) (bitsOf v.toNat 7 3)

def execWindowRead (w : Word) (s : State) : Host.Outcome State Fault Refusal := runB (fun b => b.windowRead w) s

/-- A write of `v` from SRC `src` with WRITE = 1. The crozier loads the active set too (R322). -/
def Block.windowWrite (b : Block) (v : Word) (src : Nat) (setup : Bool := false) : Block :=
  let busy := b.on pgGT GT_WIN_SEL_BUSY
  let b := b.writeWinSel v
  let n := bitsOf v.toNat 0 7
  let s := bitsOf v.toNat 10 1
  if busy then b.s pgGT GT_STATUS_WR_REFUSED 1
  else if !b.windowReach n then b.s pgGT GT_WIN_SEL_ERR 1
  else if b.setInUse n s && !setup then (b.s pgGT GT_WIN_SEL_ERR 1).raise (srcGT 1) clGATE 0 src
  else b.winStart true n s (bitsOf v.toNat 7 3)

def execWindowWrite (w : Word) (src : Nat) (s : State) : Host.Outcome State Fault Refusal :=
  runB (fun b => b.windowWrite w src) s

def Block.setWindow (b : Block) (n s k : Nat) (w : Window) : Block :=
  b.modNode n (fun x => { x with windows := AMap.set {} x.windows (8 * s + k) w })

/-- GT_WIN_DATA as a window. -/
def Block.winData (b : Block) : Window :=
  { w0 := b.rd pgGT (GT_WIN_DATA 0), w1 := b.rd pgGT (GT_WIN_DATA 1), w2 := b.rd pgGT (GT_WIN_DATA 2) }

def Block.windowDone (b : Block) : Block :=
  match b.gt.op with
  | none => b
  | some (write, n, s, k) =>
    let b := { b.s pgGT GT_WIN_SEL_BUSY 0 with gt := { b.gt with op := none } }
    if !b.windowReach n then b.s pgGT GT_WIN_SEL_ERR 1
    else if write then b.setWindow n s k b.winData
    else
      let w := b.window n s k
      ((b.wr pgGT (GT_WIN_DATA 0) w.w0).wr pgGT (GT_WIN_DATA 1) w.w1).wr pgGT (GT_WIN_DATA 2) w.w2

def execWindowOpComplete (s : State) : Host.Outcome State Fault Refusal := runB Block.windowDone s

/-! ### SWAP_SCHEDULE and SWAP_CANCEL (R320) -/

/-- Cancel a pending swap: no NI changes its set. -/
def Block.cancelSwap (b : Block) : Block :=
  if b.on pgGT GT_STATUS_SWAP_PEND then
    let b := (List.range 216).foldl (fun b i => b.modNi i (fun x => { x with swapAt := none })) b
    ((b.s pgGT GT_STATUS_SWAP_PEND 0).s pgGT GT_STATUS_SWAP_CANCELLED 1).raise (srcGT 1) clGATE 0 noSrc
  else b

/-- A write of GT_SWAP.GO; in the safe state it is refused (12 R375). -/
def Block.swapSchedule (b : Block) : Block :=
  let t := nsOfStamp (b.g64 pgGT GT_SWAP_T) * 256
  if b.safe || b.on pgGT GT_STATUS_SWAP_PEND || !b.allSlotsIdle || decide (t < b.now + 100000 * 256) ||
      decide (b.now + 1000000000 * 256 < t) then b.s pgGT GT_STATUS_WR_REFUSED 1
  else
    ((List.range 216).foldl (fun b i => b.modNi i (fun x => { x with swapAt := some t })) b).s pgGT GT_STATUS_SWAP_PEND 1

def execSwapSchedule (s : State) : Host.Outcome State Fault Refusal := runB Block.swapSchedule s

def execSwapCancel (s : State) : Host.Outcome State Fault Refusal := runB Block.cancelSwap s

end Sys2Proof.Machine
end

