-- ==== Sys2Proof/Machine/Routes.lean ====
section
/-! DEFINITION. Route epochs: the live set, routes, escape tree and reachability maps that the steward computes and writes,
and the isolation of objects (03 R60-R78; 12 R371; 16 R493). -/
namespace Sys2Proof.Machine

/-! ### Links by their index (16 R493) -/

def linkIndex (n p : Nat) : Option Nat :=
  let x := xOf n
  let y := yOf n
  if (neighbour n p).isNone then none
  else match p with
    | 0 => some (13 * y + x)
    | 2 => some (13 * y + x - 1)
    | 1 => some (104 + 14 * y + x)
    | _ => some (104 + 14 * (y - 1) + x)

/-- One end of link `j`: its node and mesh port, east or north. -/
def linkEnd (j : Nat) : Nat × Nat :=
  if j < 104 then (nodeAt (j % 13) (j / 13), 0) else (nodeAt ((j - 104) % 14) ((j - 104) / 14), 1)

def Block.linkIso (b : Block) (n p : Nat) : Bool :=
  match linkIndex n p with | some j => b.stw.isoLinks.contains j | none => true

/-! ### Service (R65) -/

/-- Is domain `d` in service? A waking domain joins with the change that its wake asks for, `join`. -/
def Block.inService (b : Block) (join : Option Nat) (d : Nat) : Bool :=
  let ph := b.domPhase d
  b.domState d == 0 && !b.stw.testing.contains d &&
    (ph == 0 || (ph == 11 && ((b.dom d).included || join == some d)))

/-- A candidate of an epoch. -/
def Block.candNode (b : Block) (join : Option Nat) (n : Nat) : Bool :=
  b.inService join (domOfNode n) && !b.stw.isoNodes.contains n && b.on pgTU (TU_CELL_READY n)

/-- The neighbours of `n` over links that are not isolated, among nodes that `ok` holds of. -/
def Block.adjacent (b : Block) (ok : Nat → Bool) (n : Nat) : List Nat :=
  (List.range 4).filterMap (fun p =>
    match neighbour n p with
    | some m => if ok m && !b.linkIso n p then some m else none
    | none => none)

/-- Breadth first: the nodes reached, each with its hops. `front` lies at depth `d`, and `seen` holds it. -/
def levels (adj : Nat → List Nat) : Nat → Nat → List Nat → List (Nat × Nat) → List (Nat × Nat)
  | 0, _, _, seen => seen
  | fuel + 1, d, front, seen =>
    let next := (front.flatMap adj).eraseDups.filter (fun n => !seen.any (fun q => q.1 == n))
    if next = [] then seen else levels adj fuel (d + 1) next (seen ++ next.map (fun n => (n, d + 1)))

def hopsFrom (adj : Nat → List Nat) (n : Nat) : List (Nat × Nat) := levels adj 112 0 [n] [(n, 0)]

def hopsTo (l : List (Nat × Nat)) (n : Nat) : Option Nat := (l.find? (fun q => q.1 == n)).map (fun q => q.2)

/-- The group with the most spine nodes, the first of equals (R65). -/
def bestGroup : List (List Nat) → List Nat
  | [] => []
  | g :: gs =>
    let h := bestGroup gs
    if (h.filter isSpine).length ≤ (g.filter isSpine).length then g else h

/-- The live set of the next epoch (R65). -/
def Block.liveSet (b : Block) (join : Option Nat) : List Nat :=
  let ok := b.candNode join
  let groups := ((having 112 (fun n => isSpine n && ok n)).map (fun s => (hopsFrom (b.adjacent ok) s).map (fun q => q.1)))
  bestGroup groups

/-- Candidates that the live set leaves out. -/
def Block.strandedNodes (b : Block) (join : Option Nat) (live : List Nat) : List Nat :=
  having 112 (fun n => b.candNode join n && !live.contains n)

/-! ### Routes (R60, R61) -/

/-- What step 2 of R68 computes. -/
structure Routes where
  live : List Nat
  dist : List (Nat × List (Nat × Nat))
  depth : List (Nat × Nat)
  adj : Nat → List Nat

def escapeRoot (live : List Nat) : Nat :=
  if live.contains (nodeAt 6 3) then nodeAt 6 3
  else if live.contains (nodeAt 7 4) then nodeAt 7 4
  else (live.filter isSpine).foldl min 112

def Block.routesFor (b : Block) (join : Option Nat) : Routes :=
  let live := b.liveSet join
  let adj := b.adjacent (fun n => live.contains n)
  { live := live, dist := live.map (fun t => (t, hopsFrom adj t)), depth := hopsFrom adj (escapeRoot live), adj := adj }

def Routes.hops (r : Routes) (n t : Nat) : Option Nat :=
  match r.dist.find? (fun q => q.1 == t) with | some q => hopsTo q.2 n | none => none

/-- The parent of `n` in the escape tree: a neighbour one nearer the root, the lowest. -/
def Routes.parent (r : Routes) (n : Nat) : Option Nat :=
  match hopsTo r.depth n with
  | some (d + 1) =>
    (match (r.adj n).filter (fun m => hopsTo r.depth m == some d) with
     | [] => none
     | m :: ms => some (ms.foldl min m))
  | _ => none

/-- `n`, its parent, and so on to the root. -/
def Routes.chain (r : Routes) : Nat → Nat → List Nat
  | 0, n => [n]
  | fuel + 1, n => n :: (match r.parent n with | some m => r.chain fuel m | none => [])

/-- The mesh port of `n` that leads to its neighbour `m`. -/
def portTo (n m : Nat) : Nat := ((List.range 4).find? (fun p => neighbour n p == some m)).getD 7

/-- The attachment (node, local port) of NI `i` that node `n` uses in an epoch with this live set (R16, R60). -/
def attachSeen (live : List Nat) (i n : Nat) : Option (Nat × Nat) :=
  match attachments i with
  | [p] => if live.contains p.1 then some p else none
  | [p, q] =>
    let a := if homeColumn n = 0 then p else q
    let o := if homeColumn n = 0 then q else p
    if live.contains a.1 then some a else if live.contains o.1 then some o else none
  | _ => none

/-- Is NI `i` live in an epoch with this live set? -/
def Block.niIn (b : Block) (join : Option Nat) (live : List Nat) (i : Nat) : Bool :=
  b.inService join (domOfNi i) && !b.stw.isoNis.contains i && (attachments i).any (fun p => live.contains p.1)

-- DESIGN CHOICE (notes/assumptions/25.md)
/-- NPORT of node `n` for NI `i` (R60); `k` numbers the computation. -/
def Block.nportFor (b : Block) (join : Option Nat) (r : Routes) (k n i : Nat) : Nat :=
  if !b.niIn join r.live i then 7
  else match attachSeen r.live i n with
    | none => 7
    | some (t, j) =>
      if n = t then 4 + j
      else match r.hops n t with
        | some (d + 1) =>
          (match (r.adj n).filter (fun m => r.hops m t == some d) with
           | [] => 7
           | m :: ms => portTo n ((m :: ms)[Config.routeChoice k n i % (ms.length + 1)]?.getD m))
        | _ => 7

/-- EPORT of node `n` for NI `i` (R61): down the tree towards it, else up. -/
def Block.eportFor (b : Block) (join : Option Nat) (r : Routes) (n i : Nat) : Nat :=
  if !b.niIn join r.live i then 7
  else match attachSeen r.live i n with
    | none => 7
    | some (t, j) =>
      if n = t then 4 + j
      else
        let c := r.chain 112 t
        match c.idxOf n with
        | k => if k < c.length then portTo n ((c.drop (k - 1)).headD n) else (match r.parent n with | some m => portTo n m | none => 7)

/-- NODE_ESC of node `n` (R86). -/
def Routes.escWord (r : Routes) (n : Nat) : Nat :=
  let up := match r.parent n with | some m => portTo n m | none => 7
  let tree := maskOf 4 (fun p => p == up ||
    (match neighbour n p with | some m => r.parent m == some n | none => false))
  tree + up * 2 ^ 4 + ((hopsTo r.depth n).getD 0) * 2 ^ 8

/-- The reachability code that the map of a live NI holds for NI `d` (R74). -/
def Block.reachFor (b : Block) (join : Option Nat) (r : Routes) (d : Nat) : Nat :=
  let dom := domOfNi d
  if b.stw.testing.contains dom || (decide (1 ≤ b.domPhase dom) && decide (b.domPhase dom ≤ 7) && (b.dom dom).test) then rchBUSY
  else if !b.inService join dom then rchOFF
  else if b.niIn join r.live d then rchOK
  else rchUNREACH

/-! ### Writing the tables (R68 step 3, R85, R89, R91) -/

/-- A write of word `off` sets the parity bits of what it holds: four entries of bank `e`, or NODE_ESC of epoch `e` (R545). -/
def Block.setParity (b : Block) (n e off : Nat) : Block :=
  let keys := if off < 0x400 then [escKey e] else (List.range 4).map (fun c => 256 * e + (off - 0x400 - 0x100 * e) + c)
  b.modNode n (fun x => { x with badRt := x.badRt.filter (fun q => !keys.contains q) })

/-- A steward's write of one word to a bank of epoch `e` or its NODE_ESC in node `n`: ignored while the bank is locked. -/
def Block.writeBank (b : Block) (n e off v : Nat) : Block :=
  let b := { b with stw := { b.stw with tables := AMap.set 0 b.stw.tables (regKey (pgNode n) off) (BitVec.ofNat 32 v) } }
  if b.bankLocked n e then (b.s (pgNode n) NODE_EPOCH_WR_REFUSED 1).raise (srcNode n 1) clNODE 1
  else (b.wr (pgNode n) off (BitVec.ofNat 32 v)).setParity n e off

-- DEDUCED (notes/assumptions/23.md)
/-- LIVE bit `e` of node `n`; from 0 to 1 it clears the epoch's discard count. -/
def Block.writeLive (b : Block) (n e : Nat) (v : Bool) : Block :=
  let old := b.nodeLive n e
  let b := b.s (pgNode n) ⟨0x040, 2 + e, 1⟩ (b2n v)
  if v && !old then b.s (pgNode n) (NODE_DISCARD e) 0 else b

/-- Word `j` of a route-table bank of node `n`. -/
def Block.rtWordFor (b : Block) (join : Option Nat) (r : Routes) (k n j : Nat) : Nat :=
  (List.range 4).foldl (fun w c =>
    let i := 4 * j + c
    if 216 < i then w
    else
      let ni := if i = 216 then 215 else i
      w + (b.nportFor join r k n ni + 16 * b.eportFor join r n ni) * 2 ^ (8 * c)) 0

/-- Write bank `e`, NODE_ESC and LIVE of node `n`. LIVE goes to 0 first, so the epoch's discards count from 0. -/
def Block.writeNode (b : Block) (join : Option Nat) (r : Routes) (k e n : Nat) : Block :=
  let b := (List.range 55).foldl (fun b' j => b'.writeBank n e (0x400 + 0x100 * e + 4 * j) (b.rtWordFor join r k n j)) b
  let b := b.writeBank n e (0x044 + 4 * e) (r.escWord n)
  (b.writeLive n e false).writeLive n e (r.live.contains n)

/-- NI_REACH_NEXT of NI `i`. -/
def Block.writeReachNext (b : Block) (join : Option Nat) (r : Routes) (i : Nat) : Block :=
  (having 216 (fun _ => true)).foldl (fun b' d =>
    b'.s (pgNi i) (NI_REACH_NEXT d)
      (let c := b.reachFor join r d
       if c = rchOK ∧ b.niIn join r.live i = false then rchUNREACH else c)) b

/-- Step 3 of R68: write everything that the change needs in every node and NI that is powered. -/
def Block.writeTables (b : Block) (join : Option Nat) (r : Routes) (e : Nat) : Block :=
  let k := b.free
  let b := { b with free := b.free + 1 }
  let b := (having 112 (fun n => (b.dom (domOfNode n)).up)).foldl (fun b n => b.writeNode join r k e n) b
  (having 216 (fun i => b.niUp i)).foldl (fun b i => b.writeReachNext join r i) b

/-! ### What a waiting or running change excludes (R66, R67) -/

def Block.wakeJoin : Cause → Option Nat
  | .wake d => some d
  | _ => none

/-- NIs that are live and would not be in an epoch with this live set. -/
def Block.leaving (b : Block) (join : Option Nat) (live : List Nat) : List Nat :=
  having 216 (fun i => b.niLive i && !b.niIn join live i)

/-- NIs that a change requested and not complete excludes (R67): those that the change in progress leaves out, and those that a waiting one
would. -/
def Block.excludedNis (b : Block) : List Nat :=
  (match b.stw.change with | some c => c.leaving | none => []) ++
  (if b.stw.queue = [] then [] else b.leaving none (b.liveSet none))

/-- NI ids that CSQ_TARGETS of slot `k` names. -/
def Block.slotTargets (b : Block) (k : Nat) : List Nat := having 216 (fun i => b.bitAt pgCSQ (CSQ_TARGETS k) i)

/-- Does some active slot name one of `nis` (R66)? -/
def Block.slotNames (b : Block) (nis : List Nat) : Bool :=
  (List.range 4).any (fun k => b.slotState k != 0 && nis.any (fun i => b.bitAt pgCSQ (CSQ_TARGETS k) i))

def Block.streaming (b : Block) (k : Nat) : Bool := b.streamsOf k != []

/-- Must a change that excludes `nis` wait (R66, R228)? -/
def Block.mustWait (b : Block) (nis : List Nat) : Bool :=
  b.slotNames nis || (List.range 8).any (fun k => nis.contains (192 + k) && b.streaming k)

/-! ### Isolation (R78; 12 R371) -/

-- DEDUCED (notes/assumptions/22.md)
/-- Does the normal route of epoch `e` lead from node `n` to NI `d` over enabled ports? -/
def Block.pathOk (b : Block) (e d : Nat) : Nat → Nat → Bool
  | 0, _ => false
  | fuel + 1, n =>
    let c := b.routeCode n e d false
    if 7 ≤ c ∨ b.nodeLive n e = false then false
    else if 4 ≤ c then true
    else match neighbour n c with | some m => b.pathOk e d fuel m | none => false

/-- The node at which NI `i` injects a packet for NI `d` in epoch `e` (R17). -/
def Block.injectNode (b : Block) (i d e : Nat) : Nat :=
  (facing i (b.attachFor i { dst := d, src := i, opc := 0, cls := 0, len := 0, rep := e })).1

-- DEDUCED (notes/assumptions/22.md)
/-- Mark UNREACHABLE, in every map in use, each target that no longer has a path (R78). -/
def Block.demote (b : Block) : Block :=
  (having 216 (fun i => b.niLive i)).foldl (fun b' i =>
    (having 216 (fun d => b.reach i d == rchOK && !b.pathOk (b.niEpoch i) d 113 (b.injectNode i d (b.niEpoch i)))).foldl
      (fun b' d => (b'.s (pgNi i) (NI_REACH_NEXT d) rchUNREACH).s (pgNi i) (NI_REACH d) rchUNREACH) b') b

/-- An output as a link starts with: four credits on each VC, nothing driven (R31 of 02). -/
def OutPort.fresh (o : OutPort) : OutPort := { o with owner := none, driven := none, credits := [], waste := false }

/-- An input end as a link starts with: no credit owed, no packet begun. -/
def Block.freshInput (b : Block) : Port → Block
  | .node n q =>
    (List.range 9).foldl (fun b v => b.setRx n q v none)
      (b.modNode n (fun x => { x with owed := AMap.drop x.owed (vcKey q 0) (vcKey q 0 + 16) }))
  | .ni i a => b.modNi i (fun x =>
      { x with owed := AMap.drop x.owed (vcKey a 0) (vcKey a 0 + 16), asm := AMap.drop x.asm (vcKey a 0) (vcKey a 0 + 16) })

-- DEDUCED (notes/assumptions/99.md)
/-- The link on port `p` of node `n` is enabled again: both directions start afresh (02 R31). -/
def Block.freshLink (b : Block) (n p : Nat) : Block :=
  match upstream (.node n p) with
  | none => b
  | some s =>
    let b := (b.setOut (.node n p) (b.out (.node n p)).fresh).setOut s (b.out s).fresh
    (b.freshInput (.node n p)).freshInput s

/-- Set or clear ENABLE or LOCAL_EN of a port. -/
def Block.setPort (b : Block) (n p : Nat) (v : Bool) : Block :=
  let b := if v && !b.portOn n p then b.freshLink n p else b
  if p < 4 then (if (neighbour n p).isSome then b.s (pgNode n) ⟨0x04C, 4 + p, 1⟩ (b2n v) else b)
  else if (localNi n (p - 4)).isSome then b.s (pgNode n) ⟨0x04C, 12 + (p - 4), 1⟩ (b2n v) else b

/-- Set or clear both ends of the mesh link on port `p` of `n`. -/
def Block.setLink (b : Block) (n p : Nat) (v : Bool) : Block :=
  match neighbour n p with
  | some m => (b.setPort n p v).setPort m (opposite p) v
  | none => b

/-- May the port carry traffic: present, and neither it nor its node or NI isolated? -/
def Block.portAllowed (b : Block) (n p : Nat) : Bool :=
  !b.stw.isoNodes.contains n &&
  (if p < 4 then (match neighbour n p with | some m => !b.linkIso n p && !b.stw.isoNodes.contains m | none => false)
   else match localNi n (p - 4) with | some (i, _) => !b.stw.isoNis.contains i | none => false)

/-- Enable every allowed port of the powered nodes that `ok` holds of (16 R481 step 7). -/
def Block.enablePorts (b : Block) (ok : Nat → Bool) : Block :=
  (having 112 (fun n => ok n && (b.dom (domOfNode n)).up)).foldl (fun b n =>
    (List.range 7).foldl (fun b p => if b.portAllowed n p then b.setPort n p true else b) b) b

/-- Objects that the steward isolates (16 R493): 0 a link by its index, 1 a node, 2 an NI. -/
def Block.isolated (b : Block) (kind id : Nat) : Bool :=
  if kind = 0 then b.stw.isoLinks.contains id else if kind = 1 then b.stw.isoNodes.contains id else b.stw.isoNis.contains id

/-- Does the object exist? -/
def objectOk (kind id : Nat) : Bool :=
  if kind = 0 then decide (id < 202) else if kind = 1 then isNode id else if kind = 2 then isNi id else false

/-- Steps 1 and 2 of R371: disable the object's ports and mark what they cut off. -/
def Block.cutOff (b : Block) (kind id : Nat) : Block :=
  let b := { b with stw :=
    if kind = 0 then { b.stw with isoLinks := b.stw.isoLinks ++ [id] }
    else if kind = 1 then { b.stw with isoNodes := b.stw.isoNodes ++ [id] }
    else { b.stw with isoNis := b.stw.isoNis ++ [id] } }
  let b :=
    if kind = 0 then b.setLink (linkEnd id).1 (linkEnd id).2 false
    else if kind = 1 then
      [4, 5, 6].foldl (fun b p => b.setPort id p false) ((List.range 4).foldl (fun b p => b.setLink id p false) b)
    else (attachments id).foldl (fun b q => b.setPort q.1 (4 + q.2) false) b
  b.demote

/-- Isolate an object (R371). Its epoch change joins the steward's queue with `cause`. -/
def Block.isolate (b : Block) (kind id : Nat) (cause : Cause) : Block :=
  if b.isolated kind id then b else (b.cutOff kind id).askChange cause

/-- The object comes back: its ports are enabled where nothing else isolates them (16 R493). -/
def Block.returnPorts (b : Block) (kind id : Nat) : Block :=
  let b := { b with stw :=
    if kind = 0 then { b.stw with isoLinks := b.stw.isoLinks.filter (· != id) }
    else if kind = 1 then { b.stw with isoNodes := b.stw.isoNodes.filter (· != id) }
    else { b.stw with isoNis := b.stw.isoNis.filter (· != id) } }
  b.enablePorts (fun n =>
    if kind = 0 then n == (linkEnd id).1 || neighbour (linkEnd id).1 (linkEnd id).2 == some n
    else if kind = 1 then n == id || (List.range 4).any (fun p => neighbour id p == some n)
    else (attachments id).any (fun q => q.1 == n))

end Sys2Proof.Machine
end

