-- ==== Sys2Proof/Machine/Csq.lean ====
section
/-! DEFINITION. The commit sequencer: slots, the checks of a command, deadlines, aborts, outcomes and the abort net's tests
(06 R163-R211; 07 R224, R225; 14 R432), with the commands CSQ_OPEN to CSQ_ABORT, VOTE_RECEIVE to LOCKSTEP_MISMATCH on its side. -/
namespace Sys2Proof.Machine

def slIDLE : Nat := 0
def slOPEN : Nat := 1
def slVOTING : Nat := 2
def slARMING : Nat := 3
def slDECIDED : Nat := 4
def slABORTING : Nat := 5

def voREADY : Nat := 0
def voOFF : Nat := 5
def voBUSY : Nat := 6
def voUNREACH : Nat := 8
def voNONE : Nat := 9
def voPENDING : Nat := 15

def Slot.vote (s : Slot) (i : Nat) : Vote := AMap.get {} s.votes i
def Slot.report (s : Slot) (i : Nat) : Option Report := AMap.get none s.reports i

/-! ### Time status (05 R123, R127) -/

def tsUNSET : Nat := 0
def tsTRACEABLE : Nat := 1
def tsHOLDOVER : Nat := 2
def tsUNTRACEABLE : Nat := 3
def tsSLEWING : Nat := 4

/-- The place of a status from best to worst (R127). -/
def statusRank (c : Nat) : Nat :=
  if c = tsTRACEABLE then 0 else if c = tsSLEWING then 1 else if c = tsHOLDOVER then 2 else if c = tsUNTRACEABLE then 3 else 4

def worseTime (x y : Nat) : Nat := if statusRank x ≤ statusRank y then y else x

/-! ### The CSQ's time cell (R167) -/

/-- The node whose time cell the CSQ measures with: N(6,4), or N(7,3) while N(6,4) is not live. -/
def Block.csqNode (b : Block) : Nat := if b.nodeLive (nodeAt 6 4) (b.niEpoch 206) then nodeAt 6 4 else nodeAt 7 3

/-- Device time by that cell, in 1/256 ns. -/
def Block.csqNow (b : Block) : Nat := b.cellNow b.csqNode

/-- Let time pass until that cell shows `t`, if that lies ahead. -/
def Block.untilCsq (b : Block) (t : Nat) : Block := b.untilCell b.csqNode t

/-- Does the slot's worst status still follow the status of now (R199)? -/
def Block.tracksStatus (b : Block) (k : Nat) : Bool :=
  let st := b.slotState k
  st == slOPEN || st == slVOTING || st == slARMING || (st == slDECIDED && decide (b.csqNow ≤ (b.slot k).tNs * 256))

/-- The time status takes the value `st`: every commit that is under way notes it (R127, R199). -/
def Block.setTimeStatus (b : Block) (st : Nat) : Block :=
  let b := b.s pgTU TU_STATUS_STATE st
  (List.range 4).foldl (fun b k =>
    if b.tracksStatus k then b.modSlot k (fun s => { s with worst := worseTime s.worst st }) else b) b

/-! ### The slot's registers -/

def Block.setSlotState (b : Block) (k st : Nat) : Block := b.s pgCSQ (CSQ_SLOT_STATE k) st
def Block.hostMode (b : Block) (k : Nat) : Bool := b.on pgCSQ (CSQ_SLOT_MODE k)
def Block.slotT (b : Block) (k : Nat) : Nat := nsOfStamp (b.g64 pgCSQ (CSQ_RELEASE_T k))
def Block.slotFrond (b : Block) (k : Nat) : Nat := b.g pgCSQ (CSQ_FROND_LAUNCH_FROND_ID k)
def Block.slotHost (b : Block) (k : Nat) : Nat := 200 + b.g pgCSQ (CSQ_FROND_LAUNCH_HOST_PORT k)
def Block.cutoffNs (b : Block) (k : Nat) : Nat := b.g pgCSQ (CSQ_SLOT_EFF_CUTOFF k)
def Block.guardNs (b : Block) (k : Nat) : Nat := b.g pgCSQ (CSQ_SLOT_EFF_GUARD k)
/-- Loop NIs named, as a 192-bit map. -/
def Block.loopTargets (b : Block) (k : Nat) : Nat := maskOf 192 (fun i => b.bitAt pgCSQ (CSQ_TARGETS k) i)

/-- Do slots `j` and `k` share a target? -/
def Block.shareTarget (b : Block) (j k : Nat) : Bool :=
  (b.slotTargets j).any (fun i => b.bitAt pgCSQ (CSQ_TARGETS k) i)

def Block.allReady (b : Block) (k : Nat) : Bool := (b.slotTargets k).all (fun i => ((b.slot k).vote i).code == voREADY)

/-- The mode fields of a word written to CSQ_SLOT_CTRL, and its W1C bit (R169, R207). -/
def Block.writeCtrl (b : Block) (k : Nat) (w : Word) : Block :=
  let b := if bit w.toNat 11 then b.s pgCSQ (CSQ_SLOT_WR_REFUSED k) 0 else b
  let old := bitsOf (b.rd pgCSQ (0x100 + 0x80 * k)).toNat 2 3
  let new := bitsOf w.toNat 2 3
  if b.slotState k = slIDLE then b.s pgCSQ ⟨0x100 + 0x80 * k, 2, 3⟩ new
  else if old = new then b
  else (b.s pgCSQ (CSQ_SLOT_WR_REFUSED k) 1)

/-! ### The launcher (07 R224, R225) -/

/-- What the launcher reads: the DEFINED descriptors of REACHABLE banks that read clean, and whether one read POISONED. -/
structure Launcher where
  descs : List (Nat × Desc)
  poisoned : Bool

-- DEDUCED (notes/assumptions/21.md)
def Sys.readDescs (w : Sys) (id : Nat) : Launcher × Sys :=
  (having 8 (fun k => w.blk.reach 206 (192 + k) == rchOK)).foldl (fun acc k =>
    let r := acc.2.read (descAddr k id) 128
    let d := descFrom r.1
    if r.2.1 = stPOISON then ({ acc.1 with poisoned := true }, r.2.2.2)
    else if d.defined then ({ acc.1 with descs := acc.1.descs ++ [(k, d)] }, r.2.2.2)
    else (acc.1, r.2.2.2)) ({ descs := [], poisoned := false }, w)

/-- BANK_MASK of the frond. -/
def Launcher.mask (l : Launcher) : Nat := match l.descs with | (_, d) :: _ => d.mask | [] => 0
def Launcher.gen (l : Launcher) : Nat := match l.descs with | (_, d) :: _ => d.gen | [] => 0
def Launcher.digests (l : Launcher) : List (Nat × List Byte) := l.descs.map (fun q => (q.1, q.2.digest))

def overlapMaps : List Nat → Bool
  | [] => false
  | m :: ms => ms.any (fun x => m &&& x != 0) || overlapMaps ms

/-- Check 8: is the frond invalid (R224)? `held` are the digests captured at OPEN, for a LAUNCH of an OPEN slot. -/
def Block.frondInvalid (b : Block) (l : Launcher) (held : Option (List (Nat × List Byte))) : Bool :=
  l.poisoned || l.descs.isEmpty || l.descs.any (fun q => !q.2.intact) ||
  l.descs.any (fun q => q.2.mask != l.mask || q.2.gen != l.gen) ||
  (List.range 8).any (fun k => bit l.mask k && b.reach 206 (192 + k) == rchOK && !l.descs.any (fun q => q.1 == k)) ||
  overlapMaps (l.descs.map (fun q => q.2.targets)) ||
  (match held with | some ds => l.digests.any (fun q => ds.any (fun d => d.1 == q.1 && d.2 != q.2)) | none => false)

/-- Attachments of NI `i` that are live in its epoch. -/
def Block.liveAttachments (b : Block) (i : Nat) : Nat :=
  ((attachments i).filter (fun q => b.nodeLive q.1 (b.niEpoch i))).length

/-- F of R225. -/
def Block.frondFlits (b : Block) (l : Launcher) : Nat :=
  ((l.descs.filter (fun q => q.2.intact)).map (fun q =>
    if b.liveAttachments (192 + q.1) = 1 then q.2.flitsW + q.2.flitsE else max q.2.flitsW q.2.flitsE)).foldl max 0

-- DEDUCED (notes/assumptions/21.md)
/-- The largest entry count that the frond has for a target (R175), from its directories. -/
def Sys.frondCount (w : Sys) (l : Launcher) (targets : Nat) : Nat × Sys :=
  l.descs.foldl (fun acc q => (List.range q.2.n).foldl (fun acc x =>
    let r := acc.2.read (bankAddr q.1 (1024 * q.2.base) + 16 * x) 16
    let e := dirEntry r.1
    (if bit targets e.ni && r.2.1 != stPOISON then max acc.1 e.count else acc.1, r.2.2.2)) acc) (0, w)

/-! ### The launch estimate (R173-R175), in ps -/

def Block.budTF (b : Block) : Nat := max 1 (b.g pgCSQ CSQ_BUDGET0_TF)
def Block.budSHARE (b : Block) : Nat := clamp 1 256 (b.g pgCSQ CSQ_BUDGET0_SHARE)
def Block.budPATH (b : Block) : Nat := b.g pgCSQ CSQ_BUDGET1_PATH
def Block.budFIXED (b : Block) : Nat := b.g pgCSQ CSQ_BUDGET1_FIXED
def Block.budCHK (b : Block) : Nat := b.g pgCSQ CSQ_BUDGET2_CHK
def Block.budQUAD (b : Block) : Nat := max 1 (b.g pgCSQ CSQ_BUDGET2_LE_QUAD)

/-- The larger of the counts of attachment 0 and attachment 1. -/
def largestHalf (as : List Nat) : Nat := max (as.filter (· == 0)).length (as.filter (· == 1)).length

/-- N_A: targets to which one CSQ attachment sends. -/
def Block.nA (b : Block) (k : Nat) : Nat :=
  largestHalf (((b.slotTargets k).filter (fun i => b.reach 206 i == rchOK)).map (fun i =>
    b.attachFor 206 { dst := i, src := 206, opc := oPREPARE, cls := cCMT, len := 0, rep := b.niEpoch 206 }))

/-- The CSQ attachment at which a vote of target `i` arrives (R16, R17). -/
def Block.voteAt (b : Block) (i : Nat) : Nat :=
  let e := b.niEpoch 206
  let a := homeColumn (b.injectNode i 206 e)
  match place 206 a with | some (n, _) => if b.nodeLive n e then a else 1 - a | none => a

/-- N_V: targets whose votes arrive at one CSQ attachment. -/
def Block.nV (b : Block) (k : Nat) : Nat :=
  largestHalf (((b.slotTargets k).filter (fun i => b.reach 206 i == rchOK)).map (fun i => b.voteAt i))

def Block.guardEff (b : Block) : Nat := max (clamp 30 200 (b.g pgCSQ CSQ_GUARD_NS)) (b.g pgCSQ CSQ_ABORT_NET_GUARD_MIN)

/-- CUTOFF_EFF for N_A targets and C entries (R175). -/
def Block.cutoffEff (b : Block) (nA c : Nat) : Nat :=
  let shadow := ceilDiv c 4 * b.budQUAD * 125
  let a := ceilDiv (max (nA * b.budTF + 2000 * b.budPATH) (shadow + 1000 * b.budPATH)) 1000
  max (clamp 150 1000 (b.g pgCSQ CSQ_VOTE_CUTOFF_NS)) (b.guardEff + a)

/-- launch + E ≤ T − CUTOFF_EFF, in 1/256 ps times SHARE (R173). -/
def Block.fitsFrond (b : Block) (f nA nV cut t : Nat) : Bool :=
  let sh := b.budSHARE
  decide ((b.csqNow * 1000 + b.budFIXED * 256000 + 2 * nV * b.budTF * 256 + cut * 256000) * sh +
    max (f * b.budTF * 65536) (2 * nA * b.budTF * 256 * sh) ≤ t * 256000 * sh)

/-- launch + CHK + 3·TF + 2·PATH ≤ T − GUARD_EFF (R174). -/
def Block.fitsArm (b : Block) (t : Nat) : Bool :=
  decide (b.csqNow * 1000 + (b.budCHK + 2 * b.budPATH + b.guardEff) * 256000 + 3 * b.budTF * 256 ≤ t * 256000)

/-! ### The checks (R170) -/

/-- What the checks of one command look at beside the registers. -/
structure Asked where
  launch : Bool
  fromIdle : Bool
  frond : Bool
  info : Launcher
  flits : Nat
  count : Nat

/-- May the log be asked for the record (checks 13 and 14)? From the hand-over checkpoint on, and while the life-cycle state is
INVALID, no commit starts (16 R486, R488). -/
def Block.logBarred (b : Block) : Bool := b.lcInvalid || b.lc.handed

def Block.logRoom (b : Block) : Bool := decide (17 ≤ b.evlFree)

/-- Checks 1 to 4 of R170: 0 if all pass. -/
def Block.earlyChecks (b : Block) (k : Nat) (launch : Bool) : Nat :=
  let st := b.slotState k
  let ts := b.slotTargets k
  let t := b.slotT k
  let lead := clamp 1 1000 (b.g pgCSQ CSQ_POLICY_MAX_LEAD) * 1000000
  let ex := b.excludedNis
  if !(st == slIDLE || (launch && st == slOPEN)) then 1
  else if ts.isEmpty || ts.contains 206 || ts.contains 215 then 2
  else if (List.range 4).any (fun j => j != k && decide (1 ≤ b.slotState j) && decide (b.slotState j ≤ 3) && b.shareTarget k j) ||
      ts.any (fun i => ex.contains i) then 3
  else if launch && (decide (t * 256 ≤ b.csqNow) || decide (b.csqNow + lead * 256 < t * 256)) then 4
  else 0

/-- Checks 5 to 15. -/
def Block.lateChecks (b : Block) (k : Nat) (a : Asked) : Nat :=
  let t := b.slotT k
  let nA := b.nA k
  let cut := b.cutoffEff nA a.count
  let ready := !a.fromIdle && b.allReady k
  let sent := !a.fromIdle && (List.range 8).all (fun j => !b.slotStreams j k)
  let ex := b.excludedNis
  let held := if a.fromIdle then none else some (b.slot k).digests
  let fits :=
    if ready || !a.frond then
      b.fitsArm t && (ready || decide (b.csqNow + b.budCHK * 256 + cut * 256 < t * 256))
    else b.fitsFrond (if sent then 0 else a.flits) nA (b.nV k) cut t
  if a.launch && !fits then 5
  else if a.launch && decide (1000 < cut) then 6
  else if a.launch && (List.range 4).any (fun j => j != k && b.slotState j == slDECIDED && b.shareTarget k j &&
      decide (t < (b.slot j).tNs + 200)) then 7
  else if a.frond && b.frondInvalid a.info held then 8
  else if (if a.frond then (List.range 8).any (fun j => bit a.info.mask j &&
        (b.reach 206 (192 + j) != rchOK || ex.contains (192 + j)))
      else b.reach 206 (b.slotHost k) != rchOK || ex.contains (b.slotHost k)) then 9
  else if a.launch && (b.timeStatus == tsUNSET || decide (b.g pgCSQ CSQ_POLICY_TIME_REQ < statusRank b.timeStatus)) then 10
  else if a.launch && b.tu.step.isSome then 11
  else if b.safe || b.csq.bad then 12
  else if b.logBarred || (b.logEnabled && a.fromIdle && !b.logRoom && !b.on pgEVL EVL_POLICY_EMERGENCY) then 13
  else if b.logEnabled && decide (8 ≤ b.outcomesWaiting) then 14
  else
    let okA := b.on pgCSQ CSQ_ABORT_NET_A_OK
    let okB := b.on pgCSQ CSQ_ABORT_NET_B_OK
    if !(okA || okB) || (!(okA && okB) && !b.on pgCSQ CSQ_POLICY_ONE_TREE) then 15 else 0

/-- A refusal (R170): the code, and a COMMIT event from the launch-refusal source. -/
def Block.refuseCmd (b : Block) (k code : Nat) : Block :=
  (b.s pgCSQ (CSQ_SLOT_REFUSE k) code).raise (srcCSQ 7) clCOMMIT 0 k

/-! ### Sending to targets -/

def Block.sendCommit (b : Block) (k opc dst : Nat) (bytes : List Byte) : Block :=
  (b.sendUnit 206 (commitPkt opc dst (b.g pgCSQ (CSQ_SLOT_CSEQ k)) k bytes)).1

/-- A packet of one flit has LEN 0 and no payload (R40). -/
def Block.sendBare (b : Block) (k opc dst : Nat) : Block :=
  (b.sendUnit 206 { commitPkt opc dst (b.g pgCSQ (CSQ_SLOT_CSEQ k)) k [] with len := 0, flits := [] }).1

/-- The PREPARE payload (R176). -/
def preparePayload (t : Option Nat) (src : Nat) (noStage swap : Bool) : List Byte :=
  leBytes 16 ((match t with | some t => stampAt (t * 256) + 2 ^ 76 | none => 0) + src * 2 ^ 64 + b2n noStage * 2 ^ 77 +
    b2n swap * 2 ^ 78)

/-- Banks of the frond that stream to loop NI `i`. -/
def Launcher.banksOf (l : Launcher) (i : Nat) : List Nat :=
  (l.descs.filter (fun q => decide (i < 192) && bit q.2.targets i)).map (fun q => q.1)

/-- STAGE_SRC and NO_STAGE of a target. The STAGE_SRC of a target that receives no entries is free: `x`. -/
def Block.stageFor (b : Block) (k : Nat) (l : Launcher) (x i : Nat) : Nat × Bool :=
  if b.hostMode k then (b.slotHost k, decide (192 ≤ i) || b.on pgCSQ (CSQ_SLOT_NO_STAGE k))
  else match l.banksOf i with
    | j :: _ => (192 + j, false)
    | [] => (192 + x % 8, true)

/-- Record a vote of the CSQ's own for a target that was not prepared (R181). -/
def Block.ownVote (b : Block) (k i code : Nat) : Block :=
  b.modSlot k (fun s => { s with votes := AMap.set {} s.votes i { code := code } })

/-- The first PREPARE to a target (R169, R181, R76). -/
def Block.prepareTarget (b : Block) (k : Nat) (t : Option Nat) (l : Launcher) (x i : Nat) : Block :=
  let c := b.reach 206 i
  if c = rchOK then
    let st := b.stageFor k l x i
    (b.sendCommit k oPREPARE i (preparePayload t st.1 st.2 (b.on pgCSQ (CSQ_SLOT_SWAP k)))).modSlot k
      (fun s => { s with prepared := s.prepared ++ [i] })
  else if c = rchOFF then (b.ownVote k i voOFF).wakeByRequest (domOfNi i)
  else if c = rchBUSY then b.ownVote k i voBUSY
  else b.ownVote k i voUNREACH

/-- After the slot's line has fallen, 64 ns pass before a PREPARE (R185). -/
def Block.lineRest (b : Block) (k : Nat) : Block :=
  match (b.slot k).lineFell with | some t => b.until (t + 64 * 256) | none => b

/-- Every vote is READY: one ARM goes to each target (R172). -/
def Block.toArming (b : Block) (k : Nat) : Block :=
  (b.slotTargets k).foldl (fun b i => b.sendBare k oARM i)
    ((b.setSlotState k slARMING).modSlot k (fun s => { s with armSent := true }))

/-! ### OPEN and LAUNCH (R165, R169) -/

/-- The identity and hidden state of a new commit. -/
def Block.newCommit (b : Block) (k : Nat) (l : Launcher) : Block :=
  let id := b.csq.cid
  let res := b.logEnabled && b.logRoom
  let host := (List.range 32).map (fun j => BitVec.ofNat 8 (bitsOf (b.rd pgEVL (EVL_HOST_DIGEST k + 4 * (j / 4))).toNat (8 * (j % 4)) 8))
  let b := { b with csq := { b.csq with cid := (id + 1) % 2 ^ 32 },
                    evl := { b.evl with resv := b.evl.resv + b2n res } }
  let b := (List.range 7).foldl (fun b j => b.wr pgCSQ (CSQ_FAULTMAP k + 4 * j) 0) b
  let m := b.hostMode k
  (b.s pgCSQ (CSQ_SLOT_CSEQ k) id).modSlot k (fun s =>
    { cid := id, openAt := b.elapsed, mode := m, swap := b.on pgCSQ (CSQ_SLOT_SWAP k),
      frond := if m then 0 else b.slotFrond k, mask := if m then 0 else l.mask, gen := if m then 0 else l.gen,
      digests := if m then [] else l.digests, hostDigest := if m then host else [],
      worst := b.timeStatus, reserved := res, lineFell := s.lineFell })

/-- Fix T, CUTOFF_EFF and GUARD_EFF at a LAUNCH (R175). -/
def Block.fixLaunch (b : Block) (k count : Nat) : Block :=
  let cut := b.cutoffEff (b.nA k) count
  let g := b.guardEff
  ((b.s pgCSQ (CSQ_SLOT_EFF_CUTOFF k) cut).s pgCSQ (CSQ_SLOT_EFF_GUARD k) g).modSlot k (fun s =>
    { s with launchAt := some b.csqNow, tNs := b.slotT k, worst := b.timeStatus })

-- DEDUCED (notes/assumptions/21.md)
/-- Has no target of an OPEN slot entries still to load: every vote is READY and every shadow load has ended (R175)? -/
def Block.nothingToLoad (b : Block) (k : Nat) : Bool :=
  b.allReady k && (b.slotTargets k).all (fun i => (b.crec i k).load != 1 && (b.crec i k).load != 2)

/-- What the launcher learns for the checks. -/
def Sys.askFrond (w : Sys) (k : Nat) (launch : Bool) : Asked × Sys :=
  let fromIdle := w.blk.slotState k == slIDLE
  let loaded := !fromIdle && w.blk.nothingToLoad k
  if w.blk.hostMode k then
    let mc := w.blk.g pgCSQ (CSQ_FROND_LAUNCH_MAX_COUNT k)
    let all0 := w.blk.on pgCSQ (CSQ_SLOT_NO_STAGE k) || w.blk.loopTargets k == 0
    ({ launch, fromIdle, frond := false, info := { descs := [], poisoned := false }, flits := 0,
       count := if all0 || loaded then 0 else if mc = 0 ∨ 1024 < mc then 1024 else mc }, w)
  else
    let r := w.readDescs (w.blk.slotFrond k)
    let n := r.2.frondCount r.1 (r.2.blk.loopTargets k)
    ({ launch, fromIdle, frond := true, info := r.1, flits := n.2.blk.frondFlits r.1, count := if loaded then 0 else n.1 }, n.2)

/-- An accepted OPEN, or LAUNCH of an IDLE slot. -/
def Sys.startCommit (w : Sys) (k : Nat) (a : Asked) : Sys :=
  let w := w.upd (fun b =>
    let b := ((b.s pgCSQ (CSQ_SLOT_REFUSE k) 0).cancelSwap).newCommit k a.info
    let b := if a.launch then b.fixLaunch k a.count else b
    let b := (b.setSlotState k (if a.launch then slVOTING else slOPEN)).lineRest k
    let x := b.fresh
    (b.slotTargets k).foldl (fun b i => b.prepareTarget k (if a.launch then some (b.slotT k) else none) a.info x.1 i) x.2)
  if a.frond then
    w.startStreams a.info.mask k (w.blk.g pgCSQ (CSQ_SLOT_CSEQ k)) (w.blk.slotFrond k) (w.blk.loopTargets k)
  else w

/-- An accepted LAUNCH of an OPEN slot: the second PREPARE, with T, and ARM at once if every vote is READY. -/
def Block.launchOpen (b : Block) (k : Nat) (a : Asked) : Block :=
  let b := ((b.s pgCSQ (CSQ_SLOT_REFUSE k) 0).fixLaunch k a.count).setSlotState k slVOTING
  let x := b.fresh
  let b := (b.slot k).prepared.foldl (fun b i =>
    let st := b.stageFor k a.info x.1 i
    b.sendCommit k oPREPARE i (preparePayload (some (b.slotT k)) st.1 st.2 (b.slot k).swap)) x.2
  if b.allReady k then b.toArming k else b

-- DEDUCED (notes/assumptions/58.md)
/-- OPEN (launch = false) or LAUNCH of slot `k`. -/
def Sys.csqCommand (w : Sys) (k : Nat) (launch : Bool) : Sys :=
  let c := w.blk.earlyChecks k launch
  if c ≠ 0 then w.upd (fun b => b.refuseCmd k c)
  else
    let a := w.askFrond k launch
    let w := a.2
    let c := w.blk.lateChecks k a.1
    if c ≠ 0 then w.upd (fun b => b.refuseCmd k c)
    else if a.1.fromIdle then w.startCommit k a.1
    else w.upd (fun b => b.launchOpen k a.1)

/-! ### Outcomes (R193-R195, R200; 08 R239, R240) -/

/-- Result of a prepared target: 0 released, 1 discarded, 2 failed to apply, 3 no report. -/
def Slot.resultOf (s : Slot) (i : Nat) : Nat := match s.report i with | some r => r.result | none => 3

def Slot.withResult (s : Slot) (p : Nat → Bool) : List Nat := s.prepared.filter (fun i => p (s.resultOf i))

/-- Extended release stamps, in 1/256 ns, of the targets that released. -/
def Slot.relStamps (s : Slot) : List Nat :=
  s.prepared.filterMap (fun i => match s.report i with
    | some r => if r.result = 0 then some (nsOfStamp r.stamp.toNat * 256 + r.frac) else none
    | none => none)

def Slot.outcome (s : Slot) (decided : Bool) : Nat :=
  let rel := (s.withResult (· == 0)).length
  let dis := (s.withResult (· == 1)).length
  let fail := (s.withResult (fun r => 2 ≤ r)).length
  if decided then (if 0 < dis then 7 else if 0 < fail then 6 else 1)
  else if 0 < rel then 7 else (match s.abort with | some (c, _, _) => c | none => 4)

def Slot.causeOf (s : Slot) (code : Nat) : Nat :=
  let c := match s.abort with | some (_, c, _) => c | none => 0
  let c := if (s.withResult (· == 3)).isEmpty then c else max c 4
  let c := if (s.withResult (· == 2)).isEmpty then c else max c 5
  if code = 7 then 6 else c

/-- Targets not READY or not released, in ascending order. -/
def Block.badTargets (b : Block) (k : Nat) : List Nat :=
  let s := b.slot k
  (b.slotTargets k).filter (fun i => (s.vote i).code != 0 || s.resultOf i != 0 || !s.prepared.contains i)

/-- The target list of R200. -/
def Block.targetList (b : Block) (k : Nat) : List (List Byte) :=
  ((b.slotTargets k).filter (fun i => ((b.slot k).vote i).code == voREADY)).map (fun i =>
    let v := (b.slot k).vote i
    leBytes 2 i ++ leBytes 2 v.count ++ leBytes 8 v.crc)

/-- The frond digest (07 R216), or the host's claim. -/
def Slot.sourceDigest (s : Slot) : List Byte :=
  if s.mode then s.hostDigest
  else sha256 ((s.digests.filter (fun d => bit s.mask d.1)).flatMap (fun d => d.2))

/-- The record body of R239. -/
def Block.commitBody (b : Block) (k code cause : Nat) : List Byte :=
  let s := b.slot k
  let st := s.relStamps
  let mn := st.foldl min (st.headD 0)
  let mx := st.foldl max 0
  let bad := b.badTargets k
  let ls := b.targetList k
  let notReady := ((b.slotTargets k).filter (fun i => (s.vote i).code != 0)).length
  recBody
    [(0x40, leBytes 4 s.cid), (0x44, leBytes 2 s.cid), (0x46, leBytes 1 (k + 4 * b2n s.mode + 8 * b2n s.swap)),
     (0x47, leBytes 1 (code + 16 * cause)),
     (0x48, leBytes 8 (match s.launchAt with | some t => stampAt t | none => 0)),
     (0x50, leBytes 8 (if s.launchAt.isSome then stampAt (s.tNs * 256) else 0)),
     (0x58, leBytes 8 (if st.isEmpty then 0 else stampAt mn)), (0x60, leBytes 8 (if st.isEmpty then 0 else stampAt mx)),
     (0x68, leBytes 1 ((s.launchAt.getD 0) % 256) ++ leBytes 1 (mn % 256) ++ leBytes 1 (mx % 256) ++ leBytes 1 s.worst),
     (0x6C, leBytes 1 (s.withResult (· == 0)).length ++ leBytes 1 (s.withResult (· == 1)).length ++
       leBytes 1 (s.withResult (fun r => 2 ≤ r)).length ++ leBytes 1 notReady),
     (0x70, leBytes 1 s.prepared.length), (0x71, leBytes 1 ls.length), (0x72, leBytes 2 s.frond), (0x74, leBytes 1 s.mask),
     (0x75, leBytes 1 ((match bad with | i :: _ => (s.vote i).code | [] => 0) + 128 * b2n (!bad.isEmpty))),
     (0x76, leBytes 2 (bad.headD 0)), (0x78, leBytes 2 s.gen), (0x80, s.sourceDigest), (0xA0, sha256 (ls.flatMap id))]

/-- CSQ_OUTCOME and CSQ_FAULTMAP (R210, R211). -/
def Block.writeOutcome (b : Block) (k code cause : Nat) (decided : Bool) : Block :=
  let s := b.slot k
  let st := s.relStamps
  let bad := b.badTargets k
  let w0 := code + cause * 2 ^ 4 + 2 ^ 8 + s.worst * 2 ^ 9 + (s.cid % 2 ^ 16) * 2 ^ 16
  let notReady := ((b.slotTargets k).filter (fun i => (s.vote i).code != 0)).length
  let w1 := (s.withResult (· == 0)).length + (s.withResult (· == 1)).length * 2 ^ 8 +
    (s.withResult (fun r => 2 ≤ r)).length * 2 ^ 16 + notReady * 2 ^ 24
  let w2 := match bad with | i :: _ => i + 2 ^ 9 + (s.vote i).code * 2 ^ 12 | [] => 0
  let o := 0x130 + 0x80 * k
  let b := ((b.wr pgCSQ o (BitVec.ofNat 32 w0)).wr pgCSQ (o + 4) (BitVec.ofNat 32 w1)).wr pgCSQ (o + 8) (BitVec.ofNat 32 w2)
  let b := b.wr pgCSQ (CSQ_COMMIT_ID k) (BitVec.ofNat 32 s.cid)
  let b := b.s64 pgCSQ (CSQ_MIN_REL k) (if st.isEmpty then 0 else stampAt (st.foldl min (st.headD 0)))
  let b := b.s64 pgCSQ (CSQ_MAX_REL k) (if st.isEmpty then 0 else stampAt (st.foldl max 0))
  (b.slotTargets k).foldl (fun b i =>
    let r := s.resultOf i
    b.setBitAt pgCSQ (CSQ_FAULTMAP k) i ((s.vote i).code != 0 || (s.prepared.contains i && 2 ≤ r) || (decided && r == 1))) b

/-- Fix the outcome of a slot in DECIDED or ABORTING (R195). -/
def Block.fixOutcome (b : Block) (k : Nat) : Block :=
  let decided := b.slotState k == slDECIDED
  let s := b.slot k
  let code := s.outcome decided
  let cause := s.causeOf code
  let body := b.commitBody k code cause
  let b := (b.writeOutcome k code cause decided).pushRec tyCOMMIT body s.reserved
  let b := if code = 1 then b
    else b.raise (srcCSQ k) clCOMMIT (if code = 7 then 3 else if code = 6 then 1 else 0) (k + 16 * code)
  let b := if b.on pgCSQ CSQ_POLICY_NOTIFY_EN then
      let data := (List.range 8).flatMap (fun j => leBytes 4 (b.rd pgCSQ (0x130 + 0x80 * k + 4 * j)).toNat)
      b.present 206 (msgReq (b.g pgCSQ CSQ_POLICY_NOTIFY_HP) data)
    else b
  (b.setSlotState k slIDLE).modSlot k (fun s =>
    { lineFell := if s.lineUp then some b.elapsed else s.lineFell })

/-- Have all prepared targets reported? -/
def Slot.allReported (s : Slot) : Bool := s.prepared.all (fun i => (s.report i).isSome)

def Block.finishIfReported (b : Block) (k : Nat) : Block :=
  let st := b.slotState k
  if (st == slDECIDED || st == slABORTING) && (b.slot k).allReported then b.fixOutcome k else b

/-! ### Aborts (R185, R189; 07 R227) -/

/-- Is the slot's commit not yet decided? -/
def Block.undecided (b : Block) (k : Nat) : Bool := decide (1 ≤ b.slotState k) && decide (b.slotState k ≤ 3)

/-- Decide an abort with an outcome code and a cause: the lines if an ARM was sent, else ABORT_MSG; STOP to the streamers. -/
def Sys.decideAbort (w : Sys) (k code cause : Nat) : Sys :=
  let w := w.upd (fun b =>
    let b := (b.setSlotState k slABORTING).modSlot k (fun s => { s with abort := some (code, cause, b.elapsed) })
    if (b.slot k).armSent then b.modSlot k (fun s => { s with lineUp := true })
    else (b.slot k).prepared.foldl (fun b i => b.sendBare k oABORT_MSG i) b)
  w.upd (fun b => (b.stopStreams k).finishIfReported k)

/-- Abort every commit that is not decided (R133, R374); the answer counts them. -/
def Sys.abortUndecided (w : Sys) (code cause : Nat) : Nat × Sys :=
  let ks := (List.range 4).filter (fun k => w.blk.undecided k)
  (ks.length, ks.foldl (fun w k => w.decideAbort k code cause) w)

/-! ### CSQ_OPEN, CSQ_LAUNCH, CSQ_ABORT (R169) -/

def Sys.csqOpen (w : Sys) (k : Nat) (v : Word) : Sys :=
  if !w.blk.niUp 206 then w else (w.upd (fun b => b.writeCtrl k v)).csqCommand k false

def execCsqOpen (k : Nat) (w : Word) (s : State) : Host.Outcome State Fault Refusal :=
  need (decide (k < 4)) (run (fun x => x.csqOpen k w) s)

def Sys.csqLaunch (w : Sys) (k : Nat) (v : Word) : Sys :=
  if !w.blk.niUp 206 then w else (w.upd (fun b => b.writeCtrl k v)).csqCommand k true

def execCsqLaunch (k : Nat) (w : Word) (s : State) : Host.Outcome State Fault Refusal :=
  need (decide (k < 4)) (run (fun x => x.csqLaunch k w) s)

def Sys.csqAbort (w : Sys) (k : Nat) (v : Word) : Sys :=
  if !w.blk.niUp 206 then w
  else
    let w := w.upd (fun b => b.writeCtrl k v)
    if w.blk.undecided k then (w.upd (fun b => b.s pgCSQ (CSQ_SLOT_REFUSE k) 0)).decideAbort k 4 1
    else w.upd (fun b => b.refuseCmd k 1)

def execCsqAbort (k : Nat) (w : Word) (s : State) : Host.Outcome State Fault Refusal :=
  need (decide (k < 4)) (run (fun x => x.csqAbort k w) s)

/-! ### VOTE_RECEIVE and VOTE_CUTOFF (R171, R172) -/

/-- Take the first packet of opcode `o` that NI `i` has accepted. -/
def Block.takeRx (b : Block) (i o : Nat) : Option (Packet × Block) :=
  match takeFirst (fun p => p.opc == o) (b.ni i).rx with
  | none => none
  | some (p, rest) => some (p, b.modNi i (fun x => { x with rx := rest }))

def Packet.payloadNat (p : Packet) : Nat := match p.flits with | f :: _ => f.1.toNat | [] => 0

/-- Did the CSQ's NI accept the packet when its cell had not passed `t` ns less `d` ns (R167)? -/
def Block.cameBy (b : Block) (p : Packet) (t d : Nat) : Bool := decide (b.csqNow + d * 256 ≤ t * 256 + (b.elapsed - p.since))

/-- Take every packet of opcode `o` that NI `i` has accepted, in order: a deadline looks at what has arrived before it. -/
def Block.takeAll (i o : Nat) (f : Block → Packet → Block) : Nat → Block → Block
  | 0, b => b
  | n + 1, b => match b.takeRx i o with
    | some (p, b) => Block.takeAll i o f n (f b p)
    | none => b

def Block.voteArrives (b : Block) (p : Packet) : Block :=
  let k := p.slot
  let s := b.slot k
  let st := b.slotState k
  if b.g pgCSQ (CSQ_SLOT_CSEQ k) = p.cseq ∧ (st = slOPEN ∨ st = slVOTING) ∧ s.prepared.contains p.src = true ∧
      (s.vote p.src).code = voPENDING ∧ (st = slVOTING → b.cameBy p s.tNs (b.cutoffNs k) = true) then
    let n := p.payloadNat
    let v : Vote := { code := bitsOf n 0 4, count := bitsOf n 16 16, crc := bitsOf n 64 64 }
    let b := b.modSlot k (fun s => { s with votes := AMap.set {} s.votes p.src v })
    if st = slVOTING ∧ b.allReady k = true then b.toArming k else b
  else b.cntNi 206 cRX_DISCARD

def Block.voteReceive (b : Block) : Block :=
  match b.takeRx 206 oVOTE with
  | none => b
  | some (p, b) => b.voteArrives p

def execVoteReceive (s : State) : Host.Outcome State Fault Refusal := runB Block.voteReceive s

def Sys.voteCutoff (w : Sys) (k : Nat) : Sys :=
  let w := w.upd (fun b => Block.takeAll 206 oVOTE Block.voteArrives (b.ni 206).rx.length b)
  if w.blk.slotState k ≠ slVOTING then w
  else
    let w := w.upd (fun b =>
      let b := b.untilCsq (((b.slot k).tNs - b.cutoffNs k) * 256)
      (b.slot k).prepared.foldl (fun b i => if ((b.slot k).vote i).code = voPENDING then b.ownVote k i voNONE else b) b)
    w.decideAbort k 2 0

def execVoteCutoff (k : Nat) (s : State) : Host.Outcome State Fault Refusal :=
  need (decide (k < 4)) (run (fun w => w.voteCutoff k) s)

/-! ### ARM_ACK_RECEIVE, GUARD_DEADLINE, OPEN_LIMIT_EXPIRY (R171, R172) -/

def Block.ackArrives (b : Block) (p : Packet) : Block :=
  let k := p.slot
  if b.g pgCSQ (CSQ_SLOT_CSEQ k) = p.cseq ∧ b.slotState k = slARMING ∧ (b.slotTargets k).contains p.src = true ∧
      (b.slot k).acks.contains p.src = false then
    let b := b.modSlot k (fun s => { s with acks := s.acks ++ [p.src] })
    if (b.slotTargets k).all (fun i => (b.slot k).acks.contains i) && b.cameBy p (b.slot k).tNs (b.guardNs k) then
      b.setSlotState k slDECIDED
    else b
  else b.cntNi 206 cRX_DISCARD

def Block.armAckReceive (b : Block) : Block :=
  match b.takeRx 206 oARM_ACK with
  | none => b
  | some (p, b) => b.ackArrives p

def execArmAckReceive (s : State) : Host.Outcome State Fault Refusal := runB Block.armAckReceive s

def Sys.guardDeadline (w : Sys) (k : Nat) : Sys :=
  let w := w.upd (fun b => Block.takeAll 206 oARM_ACK Block.ackArrives (b.ni 206).rx.length b)
  if w.blk.slotState k ≠ slARMING then w
  else (w.upd (fun b => b.untilCsq (((b.slot k).tNs - b.guardNs k) * 256))).decideAbort k 3 0

def execGuardDeadline (k : Nat) (s : State) : Host.Outcome State Fault Refusal :=
  need (decide (k < 4)) (run (fun w => w.guardDeadline k) s)

def Sys.openLimitExpiry (w : Sys) (k : Nat) : Sys :=
  if w.blk.slotState k ≠ slOPEN then w
  else
    (w.upd (fun b => b.until ((b.slot k).openAt + clamp 1 1000 (b.g pgCSQ CSQ_POLICY_OPEN_LIMIT) * 1000000 * 256))).decideAbort k 4 3

def execOpenLimitExpiry (k : Nat) (s : State) : Host.Outcome State Fault Refusal :=
  need (decide (k < 4)) (run (fun w => w.openLimitExpiry k) s)

/-! ### RELEASED_RECEIVE and REPORT_DEADLINE (R192, R193) -/

def Block.reportArrives (b : Block) (p : Packet) : Block :=
  let k := p.slot
  let s := b.slot k
  if b.g pgCSQ (CSQ_SLOT_CSEQ k) = p.cseq ∧ b.slotState k ≠ slIDLE ∧ s.prepared.contains p.src = true ∧
      (s.report p.src).isNone = true then
    let n := p.payloadNat
    let r : Report := { result := bitsOf n 0 2, cause := bitsOf n 8 3, frac := bitsOf n 16 8, stamp := BitVec.ofNat 64 (bitsOf n 64 64) }
    (b.modSlot k (fun s => { s with reports := AMap.set none s.reports p.src (some r) })).finishIfReported k
  else (b.cntNi 206 cRX_DISCARD).raise (srcCSQ k) clCOMMIT 0 k

def Block.releasedReceive (b : Block) : Block :=
  match b.takeRx 206 oRELEASED with
  | none => b
  | some (p, b) => b.reportArrives p

def execReleasedReceive (s : State) : Host.Outcome State Fault Refusal := runB Block.releasedReceive s

/-- 2 µs in 1/256 ns. -/
def twoUs : Nat := 2000 * 256

def Block.reportDeadline (b : Block) (k : Nat) : Block :=
  let b := Block.takeAll 206 oRELEASED Block.reportArrives (b.ni 206).rx.length b
  let st := b.slotState k
  if st = slDECIDED then (b.untilCsq ((b.slot k).tNs * 256 + twoUs)).fixOutcome k
  else if st = slABORTING then
    (b.until ((match (b.slot k).abort with | some (_, _, t) => t | none => 0) + twoUs)).fixOutcome k
  else b

def execReportDeadline (k : Nat) (s : State) : Host.Outcome State Fault Refusal :=
  need (decide (k < 4)) (runB (fun b => b.reportDeadline k) s)

/-! ### The abort net's tests (R188, R205) -/

def treeDelay (t : Nat) : Fld := if t = 0 then CSQ_ABORT_NET_DELAY_A else CSQ_ABORT_NET_DELAY_B
def treeOk (t : Nat) : Fld := if t = 0 then CSQ_ABORT_NET_A_OK else CSQ_ABORT_NET_B_OK

def Block.passes (b : Block) (t : Nat) : Nat := if t = 0 then b.csq.passA else b.csq.passB
-- DEDUCED (notes/assumptions/24.md)
def Block.setPasses (b : Block) (t n : Nat) : Block :=
  { b with csq := if t = 0 then { b.csq with passA := n } else { b.csq with passB := n } }

/-- Send a test pulse on a tree's slot line, if the line is idle. -/
def Block.testPulse (b : Block) (t k at_ : Nat) : Block :=
  if (b.slot k).lineUp then b else { b with csq := { b.csq with tests := b.csq.tests ++ [(4 * t + k, at_)] } }

/-- Test both trees on every idle line; the pulses leave at the elapsed instant `t`. -/
def Block.testNet (b : Block) (t : Nat) : Block :=
  [0, 1].foldl (fun b tr => (List.range 4).foldl (fun b k => b.testPulse tr k t) b) b

/-- GUARD_MIN from the trees that are OK; with none it keeps its value. -/
def Block.setGuardMin (b : Block) : Block :=
  let ds := ([0, 1].filter (fun t => b.on pgCSQ (treeOk t) && b.g pgCSQ (treeDelay t) != 0xFF)).map (fun t => b.g pgCSQ (treeDelay t))
  if ds.isEmpty then b else b.s pgCSQ CSQ_ABORT_NET_GUARD_MIN (max 30 (ceilDiv (ds.foldl max 0) 8 + 8))

/-- A tree fails a test, or a leaf reports an invalid code on it: not OK, and a COMMIT event. -/
def Block.treeFails (b : Block) (t : Nat) (detail : Nat) : Block :=
  let b := { b with csq := { b.csq with tests := b.csq.tests.filter (fun q => q.1 / 4 != t) } }
  (((b.setPasses t 0).s pgCSQ (treeDelay t) 0xFF).s pgCSQ (treeOk t) 0).setGuardMin.raise (srcCSQ (4 + t)) clCOMMIT 1 detail

/-- ABORT_NET_TEST: a write of CSQ_ABORT_NET.TEST. -/
def Block.abortNetTest (b : Block) : Block := if b.niUp 206 then b.testNet b.elapsed else b

def execAbortNetTest (s : State) : Host.Outcome State Fault Refusal := runB Block.abortNetTest s

def Block.abortNetPeriodicTest (b : Block) (t k : Nat) : Block := if b.niUp 206 then b.testPulse t k b.elapsed else b

def execAbortNetPeriodicTest (tree line : Nat) (s : State) : Host.Outcome State Fault Refusal :=
  need (decide (tree < 2) && decide (line < 4)) (runB (fun b => b.abortNetPeriodicTest tree line) s)

-- DEDUCED (notes/assumptions/24.md)
/-- A test passes when the last pulse of its tree that left with it is back; three in a row make the tree OK. -/
def Block.abortTestReturn (b : Block) (t k d : Nat) : Block :=
  match b.csq.tests.find? (fun q => q.1 == 4 * t + k) with
  | none => b
  | some q =>
    let d := min d 254
    let b := b.until (q.2 + d * 32)
    if q.2 + 32 * 256 < b.elapsed then b
    else
      let rest := b.csq.tests.erase q
      let b := { b with csq := { b.csq with tests := rest } }
      let old := b.g pgCSQ (treeDelay t)
      let b := b.s pgCSQ (treeDelay t) (if old = 0xFF then d else max old d)
      let b := if rest.any (fun r => r.1 / 4 == t && r.2 == q.2) then b else b.setPasses t (min 3 (b.passes t + 1))
      (if b.passes t = 3 then b.s pgCSQ (treeOk t) 1 else b).setGuardMin

def execAbortTestReturn (tree line delay : Nat) (s : State) : Host.Outcome State Fault Refusal :=
  need (decide (tree < 2) && decide (line < 4)) (runB (fun b => b.abortTestReturn tree line delay) s)

def Block.abortTestTimeout (b : Block) (t k : Nat) : Block :=
  match b.csq.tests.find? (fun q => q.1 == 4 * t + k) with
  | none => b
  | some q => (b.until (q.2 + 32 * 256)).treeFails t 0

def execAbortTestTimeout (tree line : Nat) (s : State) : Host.Outcome State Fault Refusal :=
  need (decide (tree < 2) && decide (line < 4)) (runB (fun b => b.abortTestTimeout tree line) s)

/-! ### Lockstep (R197; 14 R432) -/

/-- The halves disagree: COMMIT at L3, whose collection enters the safe state; no command is accepted. -/
def Block.lockstepMismatch (b : Block) : Block :=
  if b.niUp 206 then { b with csq := { b.csq with bad := true } }.raise (srcCSQ 6) clCOMMIT 3 else b

def execLockstepMismatch (s : State) : Host.Outcome State Fault Refusal := runB Block.lockstepMismatch s

/-- The steward resets both halves: out of the safe state, every slot IDLE. -/
def Block.csqLockstepReset (b : Block) : Block :=
  if b.csq.bad && !b.safe && b.allSlotsIdle then { b with csq := { b.csq with bad := false } } else b

def execCsqLockstepReset (s : State) : Host.Outcome State Fault Refusal := runB Block.csqLockstepReset s

end Sys2Proof.Machine
end

