-- ==== Sys2Proof/Machine/Targets.lean ====
section
/-! DEFINITION. The target's side of a commit: records, sori, votes, shadow loads, arming, aborts, release and reports, with
the commands PREPARE_RECEIVE to SHADOW_LOAD_PARITY_ERROR, ARM_RECEIVE, ABORT_MSG_RECEIVE to APPLY_ACK_TIMEOUT, LP_APPLY_ACK_FALL
and BOTH_INVALID_CHECK (06 R176-R192; 09 R280-R285; 10 R319, R321). -/
namespace Sys2Proof.Machine

def ns (k : Nat) : Nat := k * 256

/-- Device time by the NI's own cell, that of its first node, in 1/256 ns (R171, R187, R189). -/
def Block.niNow (b : Block) (i : Nat) : Nat := b.cellNow (facing i 0).1

/-- Let time pass until that cell shows `t`, if that lies ahead. -/
def Block.untilNi (b : Block) (i t : Nat) : Block := b.untilCell (facing i 0).1 t

/-! ### Records (R177) -/

def CRec.held (r : CRec) : Nat := (r.entries.filter (fun e => e.2.isSome)).length
def CRec.entry (r : CRec) (j : Nat) : Option Entry := AMap.get none r.entries j
/-- The held entries in ascending index. -/
def CRec.list (r : CRec) : List (Nat × Entry) := r.entries.filterMap (fun e => e.2.map (fun x => (e.1, x)))

/-- Does the record store no entry: NO_STAGE, or a system NI's (R178)? -/
def CRec.storesNone (i : Nat) (r : CRec) : Bool := r.noStage || !isLoopNi i

/-- NI_SORUS_STAT of the bank of record k, if it has one (R300). -/
def Block.showBank (b : Block) (i k : Nat) : Block :=
  let r := b.crec i k
  match r.bank with
  | none => b
  | some j =>
    let st := if r.armed then 3 else if r.vote = some voREADY then 2 else 1
    let pg := pgNi i
    (((b.s pg (NI_SORUS_STATE j) st).s pg (NI_SORUS_SLOT j) k).s pg (NI_SORUS_COUNT j) r.held).s pg (NI_SORUS_CSEQ j) r.cseq

/-- SHADOW_BUSY: a load runs or waits (R301). -/
def Block.showShadow (b : Block) (i : Nat) : Block :=
  if isLoopNi i then
    b.s (pgNi i) NI_LP_STAT_SHADOW_BUSY (b2n ((List.range 4).any (fun k =>
      (b.crec i k).load == 1 || (b.crec i k).load == 2)))
  else b

def Block.freeBank (b : Block) (i k : Nat) : Block :=
  match (b.crec i k).bank with
  | none => b
  | some j => (b.s (pgNi i) (NI_SORUS_STATE j) 0).modRec i k (fun r => { r with bank := none })

/-- Free the record of slot k and its bank. -/
def Block.freeRec (b : Block) (i k : Nat) : Block :=
  let b := (b.freeBank i k).modRec i k (fun _ => {})
  let b := b.modNi i (fun x => { x with shadow := if x.shadow = some k then none else x.shadow })
  b.showShadow i

/-- Drive LP_DISCARD for 16 ns (R282). A held port's outputs stay as they are (R284). -/
def Block.lpDiscard (b : Block) (i : Nat) : Block :=
  if b.on (pgNi i) NI_LP_STAT_HELD then b
  else b.modNi i (fun x => { x with lpApply := false, lpDiscard := b.elapsed + ns 16 })

-- DEDUCED (notes/assumptions/27.md)
/-- Undo the record's shadow load if it has begun and its entries have not been applied (R177, R186). -/
def Block.undoLoad (b : Block) (i k : Nat) : Block :=
  let r := b.crec i k
  if (r.load == 2 || r.load == 3 || (r.load == 4 && r.begun)) && !r.applied && !r.storesNone i then b.lpDiscard i else b

/-- Discard a record under R177: counted, with an NI event. -/
def Block.dropRec (b : Block) (i k : Nat) : Block :=
  (((b.undoLoad i k).freeRec i k).cntNi i cREC_DROP).raise (srcNi i 0) clNI 0

/-- The record of the packet's slot, opened anew if its pair is another (R177). -/
def Block.openRec (b : Block) (i : Nat) (p : Packet) : Block :=
  let k := p.slot
  let r := b.crec i k
  if r.isOpen ∧ r.cseq = p.cseq then b
  else
    let b := if r.isOpen then b.dropRec i k else b
    b.modRec i k (fun _ => { isOpen := true, cseq := p.cseq, openedAt := b.elapsed })

/-! ### The vote (R179, R180; 10 R321) -/

/-- The rule set that will be active at the record's release (R321). -/
def Block.setAtRelease (b : Block) (i k : Nat) : Nat :=
  let n := ((List.range 4).filter (fun j =>
    j != k && (b.crec i j).armed && !(b.crec i j).applied && (b.crec i j).swap)).length
  (b.activeSet i + n + b2n (b.crec i k).swap) % 2

/-- The verdict on a staged entry as a 4-byte write of the record's STAGE_SRC. -/
def Block.entryVerdict (b : Block) (i k : Nat) (e : Entry) : Nat :=
  let a := 0x100000000 * (i + 1) + bitsOf e.bits.toNat 0 24
  b.verdict i (b.setAtRelease i k) ((place i 0).map (fun q => q.1)) (b.group (b.crec i k).src) false oWR a (a + 3)

/-- Entries that the peristome refuses: index and verdict. -/
def Block.refused (b : Block) (i k : Nat) : List (Nat × Nat) :=
  ((b.crec i k).list.map (fun e => (e.1, b.entryVerdict i k e.2))).filter (fun q => q.2 != stOK)

def CRec.badEntries (r : CRec) : List Nat := (r.list.filter (fun e => e.2.bad || e.2.par)).map (fun e => e.1)

/-- Is the loop port held (09 R284)? -/
def Block.lpHeld (b : Block) (i : Nat) : Bool := isLoopNi i && b.on (pgNi i) NI_LP_STAT_HELD

/-- The vote's code: the first condition of R179 that holds. What STAGE_END says counts once it has arrived. -/
def Block.voteCode (b : Block) (i k : Nat) : Nat :=
  let r := b.crec i k
  let staged := !r.storesNone i
  let ended (p : Nat → Nat → Bool) : Bool := staged && r.endAt.any (fun e => p e.1 e.2.1)
  if b.lpDown i then 5
  else if b.lpHeld i || b.stuck i then 6
  else if r.noRoom || ended (fun count _ => decide (1024 < count)) then 1
  else if r.mismatch || ended (fun count _ => r.held != count || count == 0) then 2
  else if !r.badEntries.isEmpty then 7
  else if ended (fun _ crc => entriesCrc (r.list.map (fun e => e.2.bits)) != crc) then 4
  else if !(b.refused i k).isEmpty then 3
  else voREADY

/-- The loop domain's code region (11 R329). -/
def sorusRegion (i : Nat) : Nat := 14 + domOfNi i

-- DEDUCED (notes/assumptions/100.md)
/-- Read an entry through the live code of its region (11 R330, R335, R336): what is read, and what the memory manager counts. -/
def Block.readEntry (b : Block) (i : Nat) (e : Entry) : Entry × Block :=
  let r := sorusRegion i
  let code := b.liveCode r
  let x := b.fresh
  let b := if checkOpen code e.flips then x.2 else b
  let counted (b : Block) : Block :=
    if e.half = 0 then (b.bump pgMM MM_COUNTS_CE).raise (memSource r) clMEMCE 0 r else b
  let wrong (ps : List Nat) : BitVec 64 :=
    ps.foldl (fun n p => if p / 64 = e.half ∧ p < 128 then n ^^^ BitVec.ofNat 64 (2 ^ (p % 64)) else n) e.bits
  match checkWord code e.flips x.1 with
  | .good => (e, b)
  | .unseen => ({ e with bits := wrong e.flips, flips := [] }, b)
  | .corrected => ({ e with flips := [] }, counted b)
  | .wrong k => ({ e with bits := wrong (k :: e.flips), flips := [] }, counted b)
  | .detected => ({ e with bits := wrong e.flips, par := true, flips := [] }, b)

/-- Forming the vote reads every held entry once; an error that is found sets PARITY_ERR of the bank (R179). -/
def Block.readSorus (b : Block) (i k : Nat) : Block :=
  let b := (b.crec i k).list.foldl (fun b e =>
    if e.2.flips = [] then b
    else
      let r := b.readEntry i e.2
      r.2.modRec i k (fun y => { y with entries := AMap.set none y.entries e.1 (some r.1) })) b
  let r := b.crec i k
  match r.bank with
  | some j => if r.list.any (fun e => e.2.par) then b.s (pgNi i) (NI_SORUS_PARITY_ERR j) 1 else b
  | none => b

-- DEDUCED (notes/assumptions/28.md, notes/assumptions/39.md, notes/assumptions/58.md)
/-- The record votes: once per commit. -/
def Block.castVote (b : Block) (i k : Nat) : Block :=
  let b := b.readSorus i k
  let r := b.crec i k
  let code := b.voteCode i k
  let bad := b.refused i k
  let detail := if code = 3 then (bad.headD (0, 0)).1 else if code = 7 then r.badEntries.headD 0 else 0
  let crc := if code = voREADY ∨ code = 4 then entriesCrc (r.list.map (fun e => e.2.bits)) else 0
  let b := if code ≠ 3 then b
    else if bad.any (fun q => q.2 == stLOCKED) then b.raise (srcNi i 0) clSEC 1 r.src else b.raise (srcNi i 0) clGATE 0 r.src
  let loads := code == voREADY && !r.storesNone i
  let b := b.modRec i k (fun r => { r with vote := some code, load := if loads then 1 else if code = voREADY then 3 else 0 })
  let b := (b.showBank i k).showShadow i
  (b.sendUnit i (commitPkt oVOTE 206 r.cseq k (leBytes 16 (code + r.held * 2 ^ 16 + detail * 2 ^ 32 + crc * 2 ^ 64)))).1

-- DEDUCED (notes/assumptions/28.md)
/-- Does the record vote now (R179)? -/
def Block.votesNow (b : Block) (i k : Nat) : Bool :=
  let r := b.crec i k
  r.isOpen && r.prep && r.vote.isNone &&
    (r.noStage || r.noRoom || r.mismatch || r.list.any (fun e => e.2.bad) ||
      (match r.endAt with | some e => decide (e.1 ≤ r.held) | none => false))

/-- A target that takes no entries and is a system NI votes once it has a PREPARE whose NO_STAGE is 1. -/
def Block.tryVote (b : Block) (i k : Nat) : Block := if b.votesNow i k then b.castVote i k else b

/-! ### ARM_ACK (R183) -/

-- DEDUCED (notes/assumptions/39.md)
def Block.tryArm (b : Block) (i k : Nat) : Block :=
  let r := b.crec i k
  if r.isOpen && r.armRx && !r.armed && r.vote == some voREADY && r.tNs.isSome && r.load == 3 then
    let b := (b.modRec i k (fun r => { r with armed := true })).showBank i k
    (b.sendUnit i { commitPkt oARM_ACK 206 r.cseq k [] with len := 0, flits := [] }).1
  else b

/-! ### PREPARE_RECEIVE (R176-R178) -/

/-- The first PREPARE settles what entries staged before it were worth. -/
def Block.firstPrepare (b : Block) (i k src : Nat) (noStage swap : Bool) : Block :=
  let r := b.crec i k
  let foreign := r.list.any (fun e => e.2.src != src)
  let keep := r.entries.filter (fun e => match e.2 with | some x => x.src == src | none => true)
  let none' := noStage || !isLoopNi i
  let b := b.modRec i k (fun r => { r with
    prep := true, prepAt := b.elapsed, src := src, noStage := noStage, swap := swap,
    entries := if none' then [] else keep,
    mismatch := r.mismatch || foreign || (none' && r.endAt.isSome),
    noRoom := r.noRoom || (none' && !r.entries.isEmpty) })
  if none' then b.freeBank i k else b.showBank i k

def Block.prepareArrives (b : Block) (i : Nat) (p : Packet) : Block :=
  let k := p.slot
  let b := b.openRec i p
  let n := p.payloadNat
  let b := if (b.crec i k).prep then b else b.firstPrepare i k (bitsOf n 64 9) (bit n 77) (bit n 78)
  let b := if bit n 76 then b.modRec i k (fun r => { r with tNs := some (nsOfStamp (bitsOf n 0 64)) }) else b
  (b.tryVote i k).tryArm i k

def Block.prepareReceive (b : Block) (i : Nat) : Block :=
  match b.takeRx i oPREPARE with
  | none => b
  | some (p, b) => b.prepareArrives i p

def execPrepareReceive (ni : Nat) (s : State) : Host.Outcome State Fault Refusal :=
  need (isNi ni) (runB (fun b => b.prepareReceive ni) s)

/-! ### STAGE_RECEIVE (R44, R178) -/

-- DEDUCED (notes/assumptions/100.md)
/-- Store one data flit's entries, at indices `j` and, if it carries two, j + 1. -/
def Block.storeFlit (b : Block) (i k src j : Nat) (two : Bool) (d : BitVec 128) (poison : Bool) : Block :=
  let x := b.fresh
  let armed := b.on pgMM MM_FLIPMASK_ARM && b.g pgMM MM_FLIPMASK_REGION == sorusRegion i
  let fl := (if armed then x.2 else b).takeFlips (sorusRegion i) x.1
  let put (b : Block) (j h : Nat) : Block :=
    let r := b.crec i k
    if 1024 ≤ j then b.modRec i k (fun r => { r with noRoom := true })
    else if (r.entry j).isSome then b.modRec i k (fun r => { r with mismatch := true })
    else
      let e : Entry := { bits := BitVec.ofNat 64 (bitsOf d.toNat (64 * h) 64), bad := poison, src := src, half := h, flips := fl.1 }
      b.modRec i k (fun r => { r with entries := AMap.set none r.entries j (some e) })
  if two then put (put fl.2 j 0) (j + 1) 1 else put fl.2 j 0

/-- The first STAGE of a commit takes a free bank; with none free, every entry of the commit is discarded (R177). -/
def Block.takeBank (b : Block) (i k : Nat) : Block :=
  if (b.crec i k).staged then b
  else
    let b := b.modRec i k (fun r => { r with staged := true })
    match ([0, 1] : List (Fin 2)).find? (fun (j : Fin 2) => b.g (pgNi i) (NI_SORUS_STATE j) == 0) with
    | some j => (b.modRec i k (fun r => { r with bank := some j })).showBank i k
    | none => b.modRec i k (fun r => { r with full := true, noRoom := true })

def Block.storeStage (b : Block) (i : Nat) (p : Packet) : Block :=
  let k := p.slot
  let m := (p.len + 1) / 8
  if (b.crec i k).full then b
  else
    let poison := p.poisoned
    (p.flits.zipIdx.foldl (fun b q =>
      b.storeFlit i k p.src (p.first + 2 * q.2) (decide (2 * q.2 + 1 < m)) q.1.1 poison) b).showBank i k

def Block.stageArrives (b : Block) (i : Nat) (p : Packet) : Block :=
  let k := p.slot
  let b := b.openRec i p
  let b := if (b.crec i k).storesNone i then b else b.takeBank i k
  let r := b.crec i k
  if (p.len + 1) % 8 ≠ 0 then
    (((b.cntNi i cRX_DISCARD).raise (srcNi i 0) clNI 1).modRec i k (fun r => { r with mismatch := true })).tryVote i k
  else if r.storesNone i then (b.modRec i k (fun r => { r with noRoom := true })).tryVote i k
  else if r.prep && p.src != r.src then (b.modRec i k (fun r => { r with mismatch := true })).tryVote i k
  else (b.storeStage i p).tryVote i k

def Block.stageReceive (b : Block) (i : Nat) : Block :=
  match b.takeRx i oSTAGE with
  | none => b
  | some (p, b) => b.stageArrives i p

def execStageReceive (ni : Nat) (s : State) : Host.Outcome State Fault Refusal :=
  need (isNi ni) (runB (fun b => b.stageReceive ni) s)

/-! ### STAGE_END_RECEIVE (R45) -/

def Block.stageEndArrives (b : Block) (i : Nat) (p : Packet) : Block :=
  let k := p.slot
  let b := b.openRec i p
  let n := p.payloadNat
  if (b.crec i k).endAt.isSome then b
  else
    (b.modRec i k (fun r => { r with
      endAt := some (bitsOf n 0 16, bitsOf n 64 64, b.elapsed),
      mismatch := r.mismatch || r.storesNone i || (r.prep && p.src != r.src) })).tryVote i k

def Block.stageEndReceive (b : Block) (i : Nat) : Block :=
  match b.takeRx i oSTAGE_END with
  | none => b
  | some (p, b) => b.stageEndArrives i p

def execStageEndReceive (ni : Nat) (s : State) : Host.Outcome State Fault Refusal :=
  need (isNi ni) (runB (fun b => b.stageEndReceive ni) s)

/-! ### VOTE_WAIT_EXPIRY, RECORD_NO_PREPARE_EXPIRY, RECORD_NO_T_EXPIRY (R177, R179) -/

def Block.voteWaitExpiry (b : Block) (i k : Nat) : Block :=
  let r := b.crec i k
  match r.endAt with
  | some e => if r.isOpen && r.prep && r.vote.isNone then (b.until (max r.prepAt e.2.2 + ns 1000)).castVote i k else b
  | none => b

def execVoteWaitExpiry (ni k : Nat) (s : State) : Host.Outcome State Fault Refusal :=
  need (isNi ni && decide (k < 4)) (runB (fun b => b.voteWaitExpiry ni k) s)

def Block.recordNoPrepare (b : Block) (i k : Nat) : Block :=
  let r := b.crec i k
  if r.isOpen && !r.prep then (b.until (r.openedAt + ns 10000)).dropRec i k else b

def execRecordNoPrepareExpiry (ni k : Nat) (s : State) : Host.Outcome State Fault Refusal :=
  need (isNi ni && decide (k < 4)) (runB (fun b => b.recordNoPrepare ni k) s)

def Block.recordNoT (b : Block) (i k : Nat) : Block :=
  let r := b.crec i k
  if r.isOpen && r.prep && r.tNs.isNone then (b.until (r.prepAt + ns 1100000000)).dropRec i k else b

def execRecordNoTExpiry (ni k : Nat) (s : State) : Host.Outcome State Fault Refusal :=
  need (isNi ni && decide (k < 4)) (runB (fun b => b.recordNoT ni k) s)

/-! ### Shadow loads (R182; 09 R280) -/

/-- OFFSET, VALUE and HOP of an entry (02 R43). -/
def Entry.lane (e : Entry) : Nat × Nat × Nat := (bitsOf e.bits.toNat 0 24, bitsOf e.bits.toNat 24 32, bitsOf e.bits.toNat 56 2)

/-- The beats of a shadow load: up to four entries each, in ascending index (09 R280). -/
def loadBeats (es : List Entry) : List LoadBeat :=
  (List.range (ceilDiv es.length 4)).map (fun j => { lanes := ((es.drop (4 * j)).take 4).map Entry.lane, first := j == 0 })

/-- The engine's shadow takes the bank's entries, once no earlier record holds it and no LP_DISCARD pulse runs (09 R282). -/
def Block.shadowLoadStart (b : Block) (i k : Nat) : Block :=
  if (b.crec i k).load = 1 ∧ (b.ni i).shadow = none ∧ b.stuck i = false ∧ b.lpHeld i = false then
    let b := b.until (b.ni i).lpDiscard
    let es := (b.crec i k).list
    (b.modRec i k (fun r => { r with load := 2, loadAt := b.elapsed, loaded := es.map (fun e => e.1) })).modNi i (fun x =>
      { x with shadow := some k, outLoad := loadBeats (es.map (fun e => e.2)) })
  else b

def execShadowLoadStart (ni k : Nat) (s : State) : Host.Outcome State Fault Refusal :=
  need (isLoopNi ni && decide (k < 4)) (runB (fun b => b.shadowLoadStart ni k) s)

def Block.shadowLoadComplete (b : Block) (i k : Nat) : Block :=
  if (b.crec i k).load = 2 then (((b.modRec i k (fun r => { r with load := 3 })).beatPasses i 3).showShadow i).tryArm i k else b

def execShadowLoadComplete (ni k : Nat) (s : State) : Host.Outcome State Fault Refusal :=
  need (isLoopNi ni && decide (k < 4)) (runB (fun b => b.shadowLoadComplete ni k) s)

/-- A parity error read from the sorus abandons the load. -/
def Block.shadowParity (b : Block) (i k : Nat) : Block :=
  let r := b.crec i k
  if r.load = 2 then
    let b := (b.lpDiscard i).raise (srcNi i 0) clNI 1
    let b := match r.bank with | some j => b.s (pgNi i) (NI_SORUS_PARITY_ERR j) 1 | none => b
    (b.modRec i k (fun r => { r with load := 4 })).modNi i (fun x => { x with shadow := none }) |>.showShadow i
  else b

def execShadowLoadParityError (ni k : Nat) (s : State) : Host.Outcome State Fault Refusal :=
  need (isLoopNi ni && decide (k < 4)) (runB (fun b => b.shadowParity ni k) s)

/-! ### ARM_RECEIVE (R183) -/

def Block.armArrives (b : Block) (i : Nat) (p : Packet) : Block :=
  let k := p.slot
  let r := b.crec i k
  if r.isOpen && r.cseq == p.cseq && (r.vote == some voREADY || r.vote.isNone) then
    (b.modRec i k (fun r => { r with armRx := true })).tryArm i k
  else (b.cntNi i cRX_DISCARD).raise (srcNi i 0) clNI 1

def Block.armReceive (b : Block) (i : Nat) : Block :=
  match b.takeRx i oARM with
  | none => b
  | some (p, b) => b.armArrives i p

def execArmReceive (ni : Nat) (s : State) : Host.Outcome State Fault Refusal :=
  need (isNi ni) (runB (fun b => b.armReceive ni) s)

/-! ### Reports (R192) -/

def resRELEASED : Nat := 0
def resDISCARDED : Nat := 1
def resFAILED : Nat := 2

/-- Send RELEASED with the label `t` (1/256 ns), then free the bank and the record. -/
def Block.report (b : Block) (i k result cause t : Nat) : Block :=
  let r := b.crec i k
  let applied := if result = resRELEASED ∧ r.storesNone i = false then (r.endAt.map (fun e => e.1)).getD 0 else 0
  let n := result + cause * 2 ^ 8 + (t % 256) * 2 ^ 16 + applied * 2 ^ 32 + stampAt t * 2 ^ 64
  ((b.sendUnit i (commitPkt oRELEASED 206 r.cseq k (leBytes 16 n))).1).freeRec i k

/-- Discard the commit: LP_DISCARD, the bank, and a report if there was a PREPARE (R186, R192). -/
def Block.discard (b : Block) (i k cause : Nat) : Block :=
  let b := b.undoLoad i k
  if (b.crec i k).prep then b.report i k resDISCARDED cause (b.niNow i) else b.freeRec i k

/-! ### Aborts (R184, R186, R187) -/

def caA : Nat := 1
def caB : Nat := 2
def caBOTH : Nat := 3
def caMSG : Nat := 4
def caNOT_ARMED : Nat := 5
def caINVALID : Nat := 6

/-- The target of an open, unreleased record sees an abort. By its own cell, between T − 2 ns and T an armed target either stops or releases. -/
def Block.seeAbort (b : Block) (i k cause : Nat) : Block :=
  let r := b.crec i k
  if !r.isOpen || r.applied || r.keep then b
  else match r.armed, r.tNs with
    | true, some t =>
      if t * 256 < b.niNow i then b
      else if b.niNow i + ns 2 ≤ t * 256 then b.discard i k cause
      else
        let x := b.fresh
        if x.1 % 2 = 0 then x.2.discard i k cause else x.2.modRec i k (fun r => { r with keep := true })
    | _, _ => b.discard i k cause

def Block.abortMsgReceive (b : Block) (i : Nat) : Block :=
  match b.takeRx i oABORT_MSG with
  | none => b
  | some (p, b) => if (b.crec i p.slot).cseq = p.cseq then b.seeAbort i p.slot caMSG else b

def execAbortMsgReceive (ni : Nat) (s : State) : Host.Outcome State Fault Refusal :=
  need (isNi ni) (runB (fun b => b.abortMsgReceive ni) s)

-- DEDUCED (notes/assumptions/26.md)
/-- The leaf of NI `i` sees abort on the slot's line of tree A, B or both. -/
def Block.abortLine (b : Block) (i k : Nat) (onA onB : Bool) : Block :=
  if (b.slot k).lineUp && (onA || onB) then
    let seen (x : Nat) : Bool := (onA && x == k) || (onB && x == 4 + k)
    let b := b.modNi i (fun x => { x with badLines := x.badLines.filter (fun y => !seen y) })
    b.seeAbort i k (if onA && onB then caBOTH else if onA then caA else caB)
  else b

def execAbortLineReceive (ni k : Nat) (onA onB : Bool) (s : State) : Host.Outcome State Fault Refusal :=
  need (isNi ni && decide (k < 4)) (runB (fun b => b.abortLine ni k onA onB) s)

-- DEDUCED (notes/assumptions/26.md)
/-- A line pair stands invalid for more than 1 ns: the leaf ignores the tree for this slot until the pair is valid again (`back`). -/
def Block.abortLineInvalid (b : Block) (i k t : Nat) (back : Bool) : Block :=
  if back then b.modNi i (fun x => { x with badLines := x.badLines.filter (· != 4 * t + k) })
  else if (b.ni i).badLines.contains (4 * t + k) then b
  else (b.modNi i (fun x => { x with badLines := x.badLines ++ [4 * t + k] })).treeFails t k

def execAbortLineInvalid (ni k tree : Nat) (back : Bool) (s : State) : Host.Outcome State Fault Refusal :=
  need (isNi ni && decide (k < 4) && decide (tree < 2)) (runB (fun b => b.abortLineInvalid ni k tree back) s)

/-- At T − 2 ns an armed target that finds both lines invalid takes that as abort. -/
def Block.bothInvalidCheck (b : Block) (i k : Nat) : Block :=
  let r := b.crec i k
  match r.armed, r.tNs with
  | true, some t =>
    if t * 256 < b.niNow i + ns 2 ∨ r.applied = true then b
    else
      let b := b.untilNi i (t * 256 - ns 2)
      if (b.ni i).badLines.contains k && (b.ni i).badLines.contains (4 + k) then b.seeAbort i k caINVALID else b
  | _, _ => b

def execBothInvalidCheck (ni k : Nat) (s : State) : Host.Outcome State Fault Refusal :=
  need (isNi ni && decide (k < 4)) (runB (fun b => b.bothInvalidCheck ni k) s)

/-! ### COMMIT_RELEASE (R189, R192, R196) -/

-- DEDUCED (notes/assumptions/29.md)
/-- T by the target's own cell. -/
def Block.commitRelease (b : Block) (i k : Nat) : Block :=
  let r := b.crec i k
  match r.tNs with
  | none => b
  | some t =>
    if !r.isOpen || r.applied then b
    else
      let b := b.untilNi i (t * 256)
      if !r.armed then b.discard i k caNOT_ARMED
      else
        let b := b.modRec i k (fun r => { r with applied := true })
        let b := if r.swap then b.modNi i (fun x => { x with swapAt := some (t * 256) }) else b
        if r.storesNone i then b.report i k resRELEASED 0 (t * 256)
        else if (b.ni i).lpAck || b.lpHeld i then b
        else b.modNi i (fun x => { x with lpApply := true, lpDiscard := min x.lpDiscard b.elapsed })

def execCommitRelease (ni k : Nat) (s : State) : Host.Outcome State Fault Refusal :=
  need (isNi ni && decide (k < 4)) (runB (fun b => b.commitRelease ni k) s)

/-! ### RULE_SET_SWAP (10 R319, R320) -/

-- DEDUCED (notes/assumptions/29.md)
/-- The NI changes its active rule set at the instant scheduled. The last NI of a GT_SWAP ends the pending swap. -/
def Block.ruleSetSwap (b : Block) (i : Nat) : Block :=
  match (b.ni i).swapAt with
  | none => b
  | some t =>
    let b := (b.untilNi i t).modNi i (fun x => { x with swapAt := none })
    let b := b.setBitAt pgGT 0x060 i (b.activeSet i == 0)
    if b.on pgGT GT_STATUS_SWAP_PEND && (List.range 216).all (fun j => (b.ni j).swapAt.isNone) then
      b.s pgGT GT_STATUS_SWAP_PEND 0
    else b

def execRuleSetSwap (ni : Nat) (s : State) : Host.Outcome State Fault Refusal :=
  need (isNi ni) (runB (fun b => b.ruleSetSwap ni) s)

/-! ### The apply handshake (09 R281; R190, R191) -/

/-- Add one to the wear counter of element `e`; it stays at 2⁴⁰ − 1. -/
def Block.addWear (b : Block) (i e : Nat) : Block :=
  let o := NI_WEAR (e % 64)
  b.s64 (pgNi i) o (satAdd 40 (b.g64 (pgNi i) o) 1)

/-- An LP_APPLY_ACK that comes too late is counted. -/
def Block.lateAck (b : Block) (i : Nat) : Block :=
  ((b.cntNi i cLATE_ACK).s (pgNi i) NI_LP_STAT_LATE_ACK 1).modNi i (fun x => { x with lpApply := false, lpAck := true })

-- DEDUCED (notes/assumptions/27.md)
/-- T + 64 ns passes without LP_APPLY_ACK (R190). What the engine holds is then discarded (R177). -/
def Block.applyAckTimeout (b : Block) (i k : Nat) : Block :=
  let r := b.crec i k
  match r.applied, r.tNs with
  | true, some t =>
    let e := t * 256 + ns 64
    let b := (b.untilNi i e).bump (pgNi i) NI_LP_STAT_APPLY_FAILS
    ((b.raise (srcNi i 1) clENDPOINT 1).lpDiscard i).report i k resFAILED 0 e
  | _, _ => b

def execApplyAckTimeout (ni k : Nat) (s : State) : Host.Outcome State Fault Refusal :=
  need (isLoopNi ni && decide (k < 4)) (runB (fun b => b.applyAckTimeout ni k) s)

/-- LP_APPLY_ACK rises `d` units of 1/256 ns from now. -/
def Block.applyAck (b : Block) (i k d : Nat) : Block :=
  if (b.ni i).lpAck then b
  else
    let b := b.advance d
    let r := b.crec i k
    match r.applied && (b.ni i).lpApply, r.tNs with
    | true, some t =>
      if t * 256 + ns 64 < b.niNow i then (b.applyAckTimeout i k).lateAck i
      else
        let acts := (r.list.filter (fun e => r.loaded.contains e.1 && bit e.2.bits.toNat 58)).map (fun e => bitsOf e.2.bits.toNat 8 6)
        let b := acts.foldl (fun b e => b.addWear i e) b
        (b.modNi i (fun x => { x with lpApply := false, lpAck := true })).report i k resRELEASED 0 (b.niNow i)
    | _, _ => b.lateAck i

def execApplyAckReceive (ni k frac256 : Nat) (s : State) : Host.Outcome State Fault Refusal :=
  need (isLoopNi ni && decide (k < 4)) (runB (fun b => b.applyAck ni k frac256) s)

/-- The engine lowers LP_APPLY_ACK, which ends the handshake. -/
def Block.applyAckFall (b : Block) (i : Nat) : Block := b.modNi i (fun x => { x with lpAck := false })

def execLpApplyAckFall (ni : Nat) (s : State) : Host.Outcome State Fault Refusal :=
  need (isLoopNi ni) (runB (fun b => b.applyAckFall ni) s)

end Sys2Proof.Machine
end

