-- ==== Sys2Proof/Machine/Time.lean ====
section
/-! DEFINITION. Device time: the reference, PPS edges, the time status, steps, the lattice, time cells and PPS_OUT, with the
commands REFCLK_LOCK to PPS_OUT_PULSE (05 R113-R149). -/
namespace Sys2Proof.Machine

/-! ### Signed values in registers -/

/-- `w` bits of a signed number. -/
def intBits (w : Nat) (x : Int) : Nat := (x.emod (2 ^ w)).toNat

def maxLabel : Int := 2 ^ 34 * secUnits

/-- A difference of labels, in 1/256 ns, modulo 2³⁴ s into the range of R158. -/
def labelDiff (x : Int) : Int :=
  let y := x.emod maxLabel
  if maxLabel ≤ 2 * y then y - maxLabel else y

/-! ### The reference (R118, R124) -/

-- DEDUCED (notes/assumptions/33.md)
def Block.stepAwaits (b : Block) : Bool := b.tu.step.isSome

/-- STEP_PEND clears, unless an authorised step awaits its instant (R130, R131). -/
def Block.dropStepPend (b : Block) : Block :=
  match b.tu.step with
  | some st => if st.cause = 0 then b else b.s pgTU TU_STATUS_STEP_PEND 0
  | none => b.s pgTU TU_STATUS_STEP_PEND 0

/-- Within ±`lim`. -/
def clampInt (lim x : Int) : Int := if x < -lim then -lim else if lim < x then lim else x

/-- The largest total correction, in ppb (R122). -/
def maxCorr : Int := 200000

-- DESIGN CHOICE (notes/assumptions/5.md)
/-- A correction that the spec bounds and does not state (R122). -/
def Block.freeCorr (b : Block) : Int × Block :=
  let x := b.fresh
  ((x.1 % 400001 : Nat) - maxCorr, x.2)

/-- TU_SLEW_LIMIT in ppb; 101 to 127 count as 100, and 0 as 1 (R157). -/
def Block.slewPpb (b : Block) : Nat := 1000 * clamp 1 100 (b.g pgTU TU_SLEW_LIMIT_PPM)

/-- From now `e` (1/256 ns) is closed at `ppb`, a rate of at least 1 (R129). -/
def Block.closeAt (b : Block) (e : Int) (ppb : Nat) : Block :=
  { b with tu := { b.tu with close := if e < 0 then -(ppb : Int) else ppb, closeEnd := b.elapsed + ceilDiv (e.natAbs * 10 ^ 9) ppb } }

-- DESIGN CHOICE (notes/assumptions/5.md)
/-- A valid edge with |e| at most 250 ns steers the rate, and closes `e` at a rate of at most TU_SLEW_LIMIT (R122, R129). -/
def Block.steerBy (b : Block) (e : Int) : Block :=
  let x := b.freeCorr
  let y := x.2.fresh
  ({ y.2 with tu := { y.2.tu with steer := x.1 } }).closeAt e (1 + y.1 % b.slewPpb)

/-- The correction in use, in ppb (R122, R159). -/
def Block.corr (b : Block) : Int :=
  if b.on pgTU TU_STATUS_ON_IOSC then b.tu.trim
  else clampInt maxCorr (b.tu.steer + (if b.elapsed < b.tu.closeEnd then b.tu.close else 0))

/-- The level of the pin TIME_VALID (R125). -/
def Block.timeValid (b : Block) : Bool := b.timeStatus == tsTRACEABLE

def Block.refclkLock (b : Block) : Block :=
  let b := (b.s pgTU TU_STATUS_REF_LOCK 1).s pgTU TU_STATUS_ON_IOSC 0
  if b.timeStatus = tsUNTRACEABLE then b.setTimeStatus tsHOLDOVER else b

def execRefclkLock (s : State) : Host.Outcome State Fault Refusal := runB Block.refclkLock s

-- DEDUCED (notes/assumptions/34.md)
def Block.refclkLoss (b : Block) : Block :=
  if !b.on pgTU TU_STATUS_REF_LOCK then b
  else
    let x := b.freeCorr
    let b := (((x.2.s pgTU TU_STATUS_REF_LOCK 0).s pgTU TU_STATUS_ON_IOSC 1).raise (srcTU 1) clTIME 1)
    let b := { b with tu := { b.tu with trim := x.1 } }
    if b.timeStatus = tsUNSET then b else (b.dropStepPend).setTimeStatus tsUNTRACEABLE

def execRefclkLoss (s : State) : Host.Outcome State Fault Refusal := runB Block.refclkLoss s

/-! ### Scheduling a step (R131-R135) -/

/-- Device time, in 1/256 ns, of the start of the second frame from now (R132). -/
def Block.secondFrame (b : Block) : Nat := (b.now / (16384 * 256) + 2) * (16384 * 256)

/-- The first frame start at least 16,384 ns from now (R121). -/
def Block.freeFrame (b : Block) : Nat := ceilDiv (b.now + 16384 * 256) (16384 * 256) * (16384 * 256)

-- DEDUCED (notes/assumptions/33.md)
/-- Schedule a step of `delta` (1/256 ns) at device time `t`: the CSQ aborts what is not decided, and a GT_SWAP is cancelled
(R133; 10 R320). -/
def Sys.scheduleStep (w : Sys) (t : Nat) (delta : Int) (cause seq : Nat) : Sys :=
  let r := w.abortUndecided 5 0
  r.2.upd (fun b =>
    let b := b.cancelSwap
    { b with tu := { b.tu with step := some { at256 := t, delta := delta, cause := cause, seq := seq, aborted := r.1 } } })

/-! ### PPS_EDGE (R119, R120, R122, R124, R129, R130) -/

def oneUs : Nat := 1000 * 256

def near (x y d : Nat) : Bool := decide (x ≤ y + d) && decide (y ≤ x + d)

-- DEDUCED (notes/assumptions/31.md)
/-- Is an edge captured now valid: within 1 µs of one second, or a whole number of missed seconds, after the last? -/
def Block.edgeValid (b : Block) : Bool :=
  b.on pgTU TU_STATUS_PPS_OK &&
    (match b.tu.lastValid with | some t => near b.elapsed (t + (b.tu.missRun + 1) * secUnits) oneUs | none => false)

-- DEDUCED (notes/assumptions/31.md)
/-- Does an edge captured now re-acquire a lost PPS? -/
def Block.edgeReacquires (b : Block) : Bool :=
  !b.on pgTU TU_STATUS_PPS_OK &&
    (match b.tu.lostCap with | some t => near b.elapsed (t + secUnits) oneUs | none => false)

def Block.armedSec (b : Block) : Nat := (b.rd pgTU 0x054).toNat + b.g pgTU TU_TOD_HI_SEC_HI * 2 ^ 32

/-- The whole second nearest to the corrected capture. -/
def Block.nearestSec (b : Block) : Nat :=
  ((b.now : Int) - b.g pgTU TU_PPS_DELAY_IN_DELAY + secUnits / 2).toNat / secUnits

/-- The edge error e, in 1/256 ns. -/
def Block.edgeError (b : Block) (sec : Nat) : Int :=
  labelDiff ((sec * secUnits + b.g pgTU TU_PPS_DELAY_IN_DELAY : Nat) - (b.now : Int))

-- DEDUCED (notes/assumptions/30.md)
/-- TU_OFFSET := e. -/
def Block.setOffset (b : Block) (e : Int) : Block :=
  (b.s pgTU TU_OFFSET_FRAC (intBits 8 e)).s64 pgTU TU_OFFSET_NS (intBits 64 (e.fdiv 256))

/-- TU_OFFSET as a number of 1/256 ns. -/
def Block.offset (b : Block) : Int :=
  let n := b.g64 pgTU TU_OFFSET_NS
  (if n < 2 ^ 63 then (n : Int) else (n : Int) - 2 ^ 64) * 256 + b.g pgTU TU_OFFSET_FRAC

-- DEDUCED (notes/assumptions/101.md)
/-- |e| > 250 ns: a step awaits authorisation (R130, R131). -/
def Block.pendStep (b : Block) (e old : Int) (mismatch : Bool) : Block :=
  let b := if mismatch then b.s pgTU TU_STATUS_TOD_MISMATCH 1 else b
  let b := b.setTimeStatus tsHOLDOVER
  if b.on pgTU TU_STATUS_STEP_PEND then
    if 256 < (e.fdiv 256 - old.fdiv 256).natAbs then b.wrapInc pgTU TU_STATUS_STEP_SEQ else b
  else ((b.s pgTU TU_STATUS_STEP_PEND 1).wrapInc pgTU TU_STATUS_STEP_SEQ).raise (srcTU 0) clTIME 1

-- DEDUCED (notes/assumptions/20.md, notes/assumptions/32.md)
/-- What the captured edge leaves in the TU's registers and timers. -/
def Block.noteEdge (b : Block) (good : Bool) (e : Int) : Block :=
  let ok := b.on pgTU TU_STATUS_PPS_OK
  let b := ((b.s pgTU TU_PPS_LAST_FRAC b.frac).s64 pgTU TU_PPS_LAST_STAMP b.stamp).s pgTU TU_STATUS_TOD_PEND 0
  let b := { b with tu := { b.tu with armedAt := none } }
  if good then
    let b := ((b.wrapInc pgTU TU_PPS_CNT_EDGES).s pgTU TU_STATUS_PPS_OK 1).setOffset e
    { b with tu := { b.tu with lastValid := some b.elapsed, missRun := 0, lostCap := none } }
  else if ok then b
  else { b with tu := { b.tu with lostCap := some b.elapsed } }

def ns250 : Nat := 250 * 256
def ns2 : Nat := 2 * 256

/-- The rows of R124 for an edge. -/
def Sys.edgeStatus (w : Sys) (good first armed mismatch : Bool) (e old : Int) : Sys :=
  let b := w.blk
  let st := b.timeStatus
  if st = tsUNSET then
    if !b.on pgTU TU_STATUS_REF_LOCK then w
    else if (good || first) && armed && !b.tu.setMade then
      if b.stepAwaits then w else w.scheduleStep b.secondFrame e 1 0
    else if !(good && b.tu.setMade) then w
    else if ns250 < e.natAbs then (if b.stepAwaits then w else w.scheduleStep b.secondFrame e 2 0)
    else w.upd (fun b => (b.setTimeStatus (if ns2 < e.natAbs then tsSLEWING else tsTRACEABLE)).steerBy e)
  else if st = tsUNTRACEABLE ∨ good = false then w
  else if ns250 < e.natAbs then w.upd (fun b => b.pendStep e old mismatch)
  else w.upd (fun b =>
    ((b.dropStepPend).setTimeStatus (if ns2 < e.natAbs then tsSLEWING else tsTRACEABLE)).steerBy e)

-- DEDUCED (notes/assumptions/32.md, notes/assumptions/101.md)
/-- A rising edge of PPS_IN at device time `at256`, or now if that has passed. -/
def Sys.ppsEdge (w : Sys) (at256 : Nat) : Sys :=
  let w := w.upd (fun b => b.untilTime at256)
  let b := w.blk
  let armed := b.on pgTU TU_STATUS_TOD_PEND
  let good := b.edgeValid || b.edgeReacquires
  let first := b.tu.lastValid.isNone && b.tu.lostCap.isNone
  let sec := if armed then b.armedSec else b.nearestSec
  let e := b.edgeError sec
  let old := b.offset
  (w.upd (fun b => b.noteEdge good e)).edgeStatus good first armed (armed && b.armedSec != b.nearestSec) e old

-- DEDUCED (notes/assumptions/20.md)
def execPpsEdge (at256 : Nat) (s : State) : Host.Outcome State Fault Refusal := run (fun w => w.ppsEdge at256) s

/-! ### PPS_MISS (R119, R124, R128) -/

def Block.ppsLost (b : Block) : Block :=
  let b := (b.s pgTU TU_STATUS_PPS_OK 0).dropStepPend.raise (srcTU 0) clTIME 1
  let b := { b with tu := { b.tu with lostCap := none } }
  if b.timeStatus = tsTRACEABLE ∨ b.timeStatus = tsSLEWING then b.setTimeStatus tsHOLDOVER else b

/-- A second has passed with no valid edge. The second miss in a row makes PPS lost. -/
def Block.countMiss (b : Block) : Block :=
  let n := b.tu.missRun
  let b := ((b.s pgTU TU_STATUS_PPS_MISS 1).bump pgTU TU_PPS_CNT_MISSES).raise (srcTU 0) clTIME 0
  let b := { b with tu := { b.tu with missRun := n + 1 } }
  if n = 1 then b.ppsLost else b

-- DEDUCED (notes/assumptions/31.md)
/-- The window of the next edge, a whole number of seconds after the last valid one, passes without a valid edge; so also while PPS is
lost (R119). -/
def Block.ppsMiss (b : Block) : Block :=
  match b.tu.lastValid with
  | none => b
  | some t => (b.until (t + (b.tu.missRun + 1) * secUnits + oneUs)).countMiss

def execPpsMiss (s : State) : Host.Outcome State Fault Refusal := runB Block.ppsMiss s

/-! ### TU_TOD_NEXT: TOD_ARM, TOD_EXPIRY, TOD_FREE_SET (R120, R121, R153) -/

/-- A TU write is ignored (R121, R128). -/
def Block.tuRefused (b : Block) : Block := (b.s pgTU TU_STATUS_WR_REFUSED 1).raise (srcTU 3) clTIME 0

/-- The written words take their place. -/
def Block.holdTod (b : Block) (lo : Option Word) (hi : Word) : Block :=
  let b := match lo with | some v => b.wr pgTU 0x054 v | none => b
  (b.s pgTU TU_TOD_HI_SEC_HI (bitsOf hi.toNat 0 2)).s pgTU TU_TOD_HI_FREE (bitsOf hi.toNat 8 1)

/-- The held value is armed (R120, R153). -/
def Block.armTod (b : Block) : Block :=
  let b := b.s pgTU TU_STATUS_TOD_PEND 1
  { b with tu := { b.tu with armedAt := some b.elapsed } }

-- DEDUCED (notes/assumptions/33.md)
/-- A write of the upper word, with the lower one if the access holds it. -/
def Sys.writeTod (w : Sys) (lo : Option Word) (hi : Word) : Sys :=
  if bit hi.toNat 8 then
    if w.blk.timeStatus ≠ tsUNSET then w.upd Block.tuRefused
    else
      let w := w.upd (fun b => (b.holdTod lo hi).armTod)
      let b := w.blk
      if b.stepAwaits then w
      else w.scheduleStep b.freeFrame (labelDiff ((b.armedSec * secUnits : Nat) - (b.freeFrame : Int))) 3 0
  else w.upd (fun b => (b.holdTod lo hi).armTod)

def execTodArm (lo : Option Word) (hi : Word) (s : State) : Host.Outcome State Fault Refusal :=
  run (fun w => w.writeTod lo (hi &&& 0xFFFFFEFF#32)) s

/-- 1.1 s pass with no edge. -/
def Block.todExpiry (b : Block) : Block :=
  match b.tu.armedAt with
  | none => b
  | some t =>
    let b := b.until (t + 1100000000 * 256)
    { b.s pgTU TU_STATUS_TOD_PEND 0 with tu := { b.tu with armedAt := none } }

def execTodExpiry (s : State) : Host.Outcome State Fault Refusal := runB Block.todExpiry s

def execTodFreeSet (lo : Option Word) (hi : Word) (s : State) : Host.Outcome State Fault Refusal :=
  run (fun w => w.writeTod lo (hi ||| 0x100#32)) s

/-! ### STEP_AUTHORISE and STEP_APPLY (R131-R135) -/

/-- A write of `v` to TU_STEP_AUTH. -/
def Sys.stepAuthorise (w : Sys) (v : Word) : Sys :=
  let b := w.blk
  if bitsOf v.toNat 16 16 = 0xC1A5 ∧ bitsOf v.toNat 0 8 = b.g pgTU TU_STATUS_STEP_SEQ ∧
      b.on pgTU TU_STATUS_STEP_PEND = true ∧ b.stepAwaits = false then
    w.scheduleStep b.secondFrame b.offset 0 (b.g pgTU TU_STATUS_STEP_SEQ)
  else w.upd (fun b => (b.s pgTU TU_STATUS_STEP_REFUSED 1).raise (srcTU 3) clTIME 0)

def execStepAuthorise (v : Word) (s : State) : Host.Outcome State Fault Refusal := run (fun w => w.stepAuthorise v) s

/-- q of R132: the part of a step that relabels is 256 · q ns. -/
def stepQ (delta : Int) : Int := (delta + 32768).fdiv 65536

/-- The label, in 1/256 ns, after a relabelling. -/
def relabel (now : Nat) (q : Int) : Nat := (((now : Int) + q * 65536).emod maxLabel).toNat

def stepBody (st : TimeStep) (old new : Nat) : List Byte :=
  let r := st.delta - stepQ st.delta * 65536
  recBody [(0x40, leBytes 8 (stampAt old)), (0x48, leBytes 8 (stampAt new)),
    (0x50, leBytes 8 (intBits 64 (st.delta.fdiv 256))), (0x58, leBytes 1 (intBits 8 st.delta)),
    (0x59, leBytes 1 (intBits 8 r)), (0x5A, leBytes 2 (intBits 16 (r.fdiv 256))), (0x5C, leBytes 1 st.seq),
    (0x5D, leBytes 1 st.cause), (0x5E, leBytes 1 st.aborted)]

/-- Cells that did not take the step's word keep their own count. -/
def Cell.stepped (q : Int) (c : Cell) : Cell :=
  { c with off := c.off.map (fun o => if c.stepTaken then o else o - q * 256), stepTaken := false }

/-- The status from S of a step, by its cause (R124, R132, R135). -/
def Block.statusFrom (b : Block) (cause : Nat) : Nat :=
  if cause = 0 ∧ b.timeStatus = tsHOLDOVER then tsSLEWING
  else if cause = 3 then (if b.on pgTU TU_STATUS_REF_LOCK then tsHOLDOVER else tsUNTRACEABLE)
  else b.timeStatus

def Block.statusAtS (b : Block) (cause : Nat) : Block :=
  (if cause = 0 then b.s pgTU TU_STATUS_STEP_PEND 0 else b).setTimeStatus (b.statusFrom cause)

/-- A pending node activation takes the first frame boundary of the new time (04 R106). -/
def Block.rearmArb (b : Block) : Block :=
  (having 112 (fun n => (b.node n).arbAt.isSome)).foldl (fun b n =>
    b.modNode n (fun x => { x with arbAt := some (frameBoundaryAfter (b.cellNs n)) })) b

/-- The instant S of the step that awaits it. -/
def Block.stepApply (b : Block) : Block :=
  match b.tu.step with
  | none => b
  | some st =>
    let b := b.untilTime st.at256
    let q := stepQ st.delta
    let new := relabel b.now q
    let b := b.pushRec tySTEP (stepBody st b.now new)
    let b := (List.range 112).foldl (fun b n => b.modCell n (fun c => c.stepped q)) b
    let b := ({ b with now := new, tu := { b.tu with step := none, setMade := true } }).closeAt (st.delta - q * 65536) b.slewPpb
    ((b.s pgTU TU_STATUS_STEPPED 1).statusAtS st.cause).rearmArb

def execStepApply (s : State) : Host.Outcome State Fault Refusal := runB Block.stepApply s

/-! ### TU_TIME_CAPTURE (R151) -/

def Block.tuCapture (b : Block) : Block :=
  ((b.s pgTU TU_TIME_FRAC b.frac).s pgTU TU_TIME_STATE b.timeStatus).s64 pgTU 0x044 b.stamp

def execTuTimeCapture (s : State) : Host.Outcome State Fault Refusal := runB Block.tuCapture s

/-! ### LATTICE_EDGE (R136, R137) -/

/-- The word that describes the start edge of a frame: its label in ns, the status, STEP, and the CRC over what comes first. -/
def timeWord (label status : Nat) (step : Bool) : BitVec 64 :=
  let n := stampAt (label * 256) / 256 * 16 + status * 2 + b2n step
  BitVec.ofNat 64 (n * 16 + crc4Of n 60 0)

/-- The frame that begins at label `t` (1/256 ns) carries the word of the next one. -/
def Block.nextWord (b : Block) (t : Nat) : BitVec 64 :=
  let f := t + 16384 * 256
  match b.tu.step with
  | some st =>
    if st.at256 = f then
      timeWord (relabel f (stepQ st.delta) / 256) (b.statusFrom st.cause) (stepQ st.delta != 0)
    else timeWord (f / 256) b.timeStatus false
  | none => timeWord (f / 256) b.timeStatus false

/-- The edge that is launched now goes onto tree A, tree B and the ring, with its bit of the frame's word; the frame-mark wire toggles at a
frame start. -/
def Block.driveLattice (b : Block) : Block :=
  let i := b.now / 65536 % 64
  let lat := (List.range 3).foldl (fun m s =>
    let c := AMap.get {} m s
    AMap.set {} m s { edge := some b.now, bit := b.tu.word.getLsbD (63 - i), mark := if i = 0 then !c.mark else c.mark }) b.tu.lattice
  { b with tu := { b.tu with lattice := lat } }

/-- The TU launches its next edge, whatever the time status. At a frame start the word sent so far is complete and the next begins. -/
def Block.latticeEdge (b : Block) : Block :=
  let b := b.untilTime ((b.now / 65536 + 1) * 65536)
  (if b.now / 65536 % 64 = 0 then { b with tu := { b.tu with lastWord := b.tu.word, word := b.nextWord b.now } } else b).driveLattice

def execLatticeEdge (s : State) : Host.Outcome State Fault Refusal := runB Block.latticeEdge s

/-! ### Time cells (R138-R143, R145, R162) -/

def srcNONE : Nat := 3

def Cell.delaysOf (c : Cell) (s : Nat) : List Nat := AMap.get [] c.delays s
def Cell.measured (c : Cell) (s : Nat) : Bool := c.delaysOf s != []

/-- d of a source: the mean of the last four accepted measurements (R142). -/
def Cell.delay (c : Cell) (s : Nat) : Nat :=
  let ds := c.delaysOf s
  ds.foldl (· + ·) 0 / max 1 ds.length

def Block.cellSrc (b : Block) (n : Nat) : Nat := b.g pgTU (TU_CELL_SRC n)

/-- TU_CELL[n] shows the cell's state, with the source `s` (R145, R162). -/
def Block.showCell (b : Block) (n s : Nat) : Block :=
  let c := b.cell n
  let ready := decide (s < srcNONE) && c.gotWord && c.measured s
  (((b.s pgTU (TU_CELL_SRC n) s).s pgTU (TU_CELL_READY n) (b2n ready)).s pgTU (TU_CELL_DELAY n) (min 65535 (c.delay s))).s
    pgTU (TU_CELL_WORD_ERR n) c.wordErr

def Block.timeEvent (b : Block) (n lvl : Nat) : Block := b.raise (srcNode n 3) clTIME lvl n

/-- The preference order of sources (R139, R140). -/
def Block.srcOrder (b : Block) : List Nat := if b.on pgTU TU_LATTICE_FORCE_B then [1, 0, 2] else [0, 1, 2]

/-- The cell takes source `s`: tree B and the ring raise an event. -/
def Block.takeSource (b : Block) (n s : Nat) : Block :=
  let b := (b.modCell n (fun c => { c with crcRun := 0, lost := false })).showCell n s
  if s = 0 then b else b.timeEvent n 1

-- DEDUCED (notes/assumptions/35.md)
/-- The cell leaves its source for the next measured one, or has none (R139). -/
def Block.leaveSource (b : Block) (n : Nat) : Block :=
  let s := b.cellSrc n
  if s = srcNONE then b
  else
    let after := (b.srcOrder.dropWhile (· != s)).drop 1
    match after.find? (fun t => (b.cell n).measured t) with
    | some t => b.takeSource n t
    | none => ((b.modCell n (fun c => { c with crcRun := 0, lost := true })).showCell n srcNONE).timeEvent n 2

-- DEDUCED (notes/assumptions/35.md)
def Block.cellSourceFault (b : Block) (n : Nat) : Block := if b.domState (domOfNode n) = 0 then b.leaveSource n else b

def execCellSourceFault (n : Nat) (s : State) : Host.Outcome State Fault Refusal :=
  need (isNode n) (runB (fun b => b.cellSourceFault n) s)

def Block.wordError (b : Block) (n : Nat) : Block := b.modCell n (fun c => { c with wordErr := satAdd 8 c.wordErr 1 })

/-- The label of a word, in ns. -/
def wordLabel (v : BitVec 64) : Nat := nsOfStamp (v.toNat / 256 * 256)

/-- The cell takes the label `l` of a word; `own` is what the TU says the edge's label is. -/
def Block.adoptLabel (b : Block) (n : Nat) (l own : Int) : Block :=
  b.modCell n (fun c => { c with off := some (l - own), badRun := 0, gotWord := true, stepTaken := b.stepAwaits && c.stepTaken })

-- DEDUCED (notes/assumptions/101.md)
/-- A word that arrives whole with good CRC: `v` as received, `sent` the label that was sent (R138). -/
def Block.cellWord (b : Block) (n : Nat) (v : BitVec 64) (sent : Nat) : Block :=
  let l := wordLabel v
  let b := b.modCell n (fun c => { c with crcRun := 0, status := bitsOf v.toNat 5 3 })
  let diff : Int := (l : Int) - sent
  if v.toNat.testBit 4 then
    b.modCell n (fun c => { c with off := some diff, badRun := 0, gotWord := true, stepTaken := b.stepAwaits })
  else match (b.cell n).off with
    | none => b.adoptLabel n l sent
    | some o =>
      if diff = o then b.modCell n (fun c => { c with badRun := 0, gotWord := true })
      else if (b.cell n).badRun = 0 then (b.wordError n).modCell n (fun c => { c with badRun := 1, gotWord := true })
      else (b.adoptLabel n l sent).timeEvent n 1

-- DEDUCED (notes/assumptions/101.md)
/-- The word that the last frame carried reaches cell `n` with the bits `errs` inverted. One that fails its CRC breaks no run of differing
labels. -/
def Block.latticeWord (b : Block) (n : Nat) (errs : BitVec 64) : Block :=
  if b.cellSrc n = srcNONE ∨ b.domState (domOfNode n) ≠ 0 then b
  else
    let v := b.tu.lastWord ^^^ errs
    if crc4Of (v.toNat / 16) 60 0 = v.toNat % 16 then b.cellWord n v (wordLabel b.tu.lastWord)
    else
      let b := (b.wordError n).modCell n (fun c => { c with crcRun := c.crcRun + 1 })
      if (b.cell n).crcRun = 2 then b.leaveSource n else b

def execLatticeWordReceive (n : Nat) (errs : BitVec 64) (s : State) : Host.Outcome State Fault Refusal :=
  need (isNode n) (runB (fun b => b.latticeWord n errs) s)

/-- A measurement of d on source `s` (R142). -/
def Block.measure (b : Block) (n s d : Nat) : Block :=
  let c := b.cell n
  let keep (ds : List Nat) : Block :=
    b.modCell n (fun c => { c with delays := AMap.set [] c.delays s ds, rejects := AMap.set 0 c.rejects s 0 })
  if !c.measured s then keep [d]
  else if near d (c.delay s) 128 then keep ((c.delaysOf s ++ [d]).reverse.take 4).reverse
  else if AMap.get 0 c.rejects s < 3 then
    b.modCell n (fun c => { c with rejects := AMap.set 0 c.rejects s (AMap.get 0 c.rejects s + 1) })
  else (keep [d]).timeEvent n 0

/-- A move that REVERT or FORCE_B asked for takes place at an echo round, or not at all (R140). -/
def Block.echoMove (b : Block) (n : Nat) (cleanA cleanB : Bool) : Block :=
  let c := b.cell n
  let s := b.cellSrc n
  let b := b.modCell n (fun c => { c with move := 0 })
  if c.move = 1 ∧ cleanA = true ∧ (s = 1 ∨ s = 2 ∨ s = srcNONE) ∧ c.measured 0 = true then b.takeSource n 0
  else if c.move = 2 ∧ cleanB = true ∧ s = 0 ∧ c.measured 1 = true then b.takeSource n 1
  else b

/-- A cell that has never had a word selects the most preferred measured source. -/
def Block.firstSource (b : Block) (n : Nat) : Nat :=
  if b.cellSrc n = srcNONE ∧ (b.cell n).gotWord = false then
    (b.srcOrder.find? (fun t => (b.cell n).measured t)).getD srcNONE
  else b.cellSrc n

/-- The instant of cell `n`'s next echo pulse on source `s`: 64 ns after edge 3n + s of a sub-round of 512 edges, and for a READY cell of the
first such sub-round of eight (R141). -/
def Block.echoAt (b : Block) (n s : Nat) : Nat :=
  let p := (if b.on pgTU (TU_CELL_READY n) then 1048576 else 131072) * 256
  let o := ((3 * n + s) * 256 + 64) * 256
  (if b.now < o then 0 else (b.now - o) / p + 1) * p + o

-- DEDUCED (notes/assumptions/101.md)
/-- Cell `n` echoes on source `s`: it measures the round trip `rtt`, where the root has measured `rho` by loop-back (R141). -/
def Block.echoRound (b : Block) (n s rtt rho : Nat) (cleanA cleanB : Bool) : Block :=
  if b.domState (domOfNode n) ≠ 0 then b
  else
    let b := ((b.untilTime (b.echoAt n s)).measure n s ((rtt - rho) / 2)).echoMove n cleanA cleanB
    b.showCell n (b.firstSource n)

def execEchoRound (n src rtt rho : Nat) (cleanA cleanB : Bool) (s : State) : Host.Outcome State Fault Refusal :=
  need (isNode n && decide (src < 3)) (runB (fun b => b.echoRound n src rtt rho cleanA cleanB) s)

/-! ### LATTICE_REVERT and LATTICE_FORCE_B (R140) -/

def Block.allMove (b : Block) (p : Nat → Bool) (m : Nat) : Block :=
  (having 112 p).foldl (fun b n => b.modCell n (fun c => { c with move := m })) b

def Block.latticeRevert (b : Block) : Block :=
  if b.on pgTU TU_LATTICE_FORCE_B then b else b.allMove (fun _ => true) 1

def execLatticeRevert (s : State) : Host.Outcome State Fault Refusal := runB Block.latticeRevert s

def Block.latticeForceB (b : Block) (on : Bool) : Block :=
  let was := b.on pgTU TU_LATTICE_FORCE_B
  let b := b.s pgTU TU_LATTICE_FORCE_B (b2n on)
  if on && !was then b.allMove (fun n => b.cellSrc n == 0) 2
  else if !on then b.allMove (fun n => (b.cell n).move == 2) 0
  else b

def execLatticeForceB (on : Bool) (s : State) : Host.Outcome State Fault Refusal := runB (fun b => b.latticeForceB on) s

/-! ### TIMED_STROBE (R144) -/

/-- What a strobe of a node's time cell does. -/
inductive Strobe where
  | release (i k : Nat)
  | swap (i : Nat)
deriving DecidableEq, Repr

/-- The strobes scheduled in the cell of node `n`: releases of armed targets and changes of rule sets, with their labels. -/
def Block.strobes (b : Block) (n : Nat) : List (Nat × Strobe) :=
  ((List.range 3).filterMap (fun j => localNi n j)).filter (fun q => q.2 == 0) |>.flatMap (fun q =>
    let i := q.1
    ((List.range 4).filterMap (fun k =>
      let r := b.crec i k
      match r.tNs with | some t => if r.armed && !r.applied then some (t * 256, Strobe.release i k) else none | none => none)) ++
    (match (b.ni i).swapAt with | some t => [(t, Strobe.swap i)] | none => []))

/-- The first of the strobes with the lowest label. -/
def earliest : List (Nat × Strobe) → Option (Nat × Strobe)
  | [] => none
  | x :: xs => match earliest xs with
    | none => some x
    | some y => if x.1 ≤ y.1 then some x else some y

def Block.timedStrobe (b : Block) (n : Nat) : Block :=
  match earliest (b.strobes n) with
  | none => b
  | some (_, .release i k) => b.commitRelease i k
  | some (_, .swap i) => b.ruleSetSwap i

def execTimedStrobe (n : Nat) (s : State) : Host.Outcome State Fault Refusal :=
  need (isNode n) (runB (fun b => b.timedStrobe n) s)

/-! ### PPS_OUT_PULSE (R148) -/

/-- Does the status let PPS_OUT pulse? -/
def Block.ppsOutOk (b : Block) : Bool :=
  b.on pgTU TU_PPS_OUT_EN &&
    (if b.on pgTU TU_PPS_OUT_ONLY_TRACEABLE then b.timeStatus == tsTRACEABLE else b.timeStatus != tsUNSET)

def Block.setPpsOut (b : Block) (v : Bool) : Block := { b with tu := { b.tu with ppsOut := v } }

/-- PPS_OUT rises ADVANCE before the next whole second, or falls WIDTH after it rose. -/
def Block.ppsOutPulse (b : Block) (rise : Bool) : Block :=
  if rise then
    let adv := b.g pgTU TU_PPS_OUT_ADVANCE
    let sec := ceilDiv (b.now + adv) secUnits
    let new := match b.tu.pulsed with | some p => decide (p < sec) | none => true
    if b.ppsOutOk && new && !b.tu.ppsOut then
      let b := b.untilTime (sec * secUnits - adv)
      { b with tu := { b.tu with ppsOut := true, pulsed := some sec, roseAt := b.elapsed } }
    else b
  else if b.tu.ppsOut then
    (b.until (b.tu.roseAt + max 1 (b.g pgTU TU_PPS_OUT_WIDTH) * oneUs)).setPpsOut false
  else b

def execPpsOutPulse (rise : Bool) (s : State) : Host.Outcome State Fault Refusal := runB (fun b => b.ppsOutPulse rise) s

end Sys2Proof.Machine
end

