-- ==== Sys2Proof/Machine/Faults.lean ====
section
/-! DEFINITION. The fault collector: classes, levels, containment, the safe state and EVENTs to hosts, with the commands
EVENT_RECEIVE to COLLECTOR_MISMATCH (12 R359-R381). -/
namespace Sys2Proof.Machine

/-! ### Parts -/

def Block.fcPend (b : Block) (c : Nat) : Bool := bit (b.g pgFC FC_PEND_PEND) c
def Block.fcAcked (b : Block) (c : Nat) : Bool := bit (b.g pgFC FC_ACK_ACK) c
def Block.fcLevel (b : Block) (c : Nat) : Nat := b.g pgFC (FC_LEVEL c)
def Block.fcLast (b : Block) (c : Nat) : Option Event := AMap.get none b.fc.last c
def Block.fcTimer (b : Block) (c : Nat) : Option Nat := AMap.get none b.fc.timers c

def Block.setTimer (b : Block) (c : Nat) (t : Option Nat) : Block :=
  { b with fc := { b.fc with timers := AMap.set none b.fc.timers c t } }

/-- ACK_TIME of a class, in 1/256 ns (R386). -/
def Block.ackTime (b : Block) (c : Nat) : Nat := clamp 1 1000000 (b.g pgFC (FC_CLASS_CFG_ACK_TIME c)) * oneUs

/-- The level to which a timer or a repeat takes a class at level `l` (R367). -/
def Block.escalated (b : Block) (c l : Nat) : Nat :=
  if 2 ≤ l ∧ b.on pgFC (FC_CLASS_CFG_CAP3 c) = false then l else min 3 (l + 1)

/-! ### EVENTs to hosts (R361, R378, R379; 09 R290) -/

/-- Host ports that NI 208's own map marks REACHABLE. -/
def Block.eventHosts (b : Block) : List Nat :=
  if b.domState domSD = 0 ∧ b.niLive 208 = true then (List.range 4).filter (fun j => b.reach 208 (200 + j) == rchOK) else []

-- DEDUCED (notes/assumptions/37.md)
def Block.sendHostEvent (b : Block) (hp : Nat) (bytes : List Byte) : Block :=
  (b.sendUnit 208 (eventPkt (200 + hp) bytes)).1

-- DEDUCED (notes/assumptions/37.md)
/-- Send the EVENT of class `c` to its host port, or to every one; hold it where none is REACHABLE. -/
def Block.sendEvent (b : Block) (c : Nat) (e : Event) (all : Bool) : Block :=
  let ok := b.eventHosts
  let hp := b.g pgFC (FC_CLASS_CFG_HP c)
  let lvl := if b.fcPend c then b.fcLevel c else e.lvl
  if ok = [] then
    let was := b.on pgFC FC_STATUS_HELD
    let b := { b with fc := { b.fc with heldEv := AMap.set none b.fc.heldEv c (some ({ e with lvl := lvl }, all)) } }
    let b := b.s pgFC FC_STATUS_HELD 1
    if was then b else b.wakeFrom (b.wakeSetOf wFAULT) wFAULT
  else
    let ports := if all then ok else if ok.contains hp then [hp] else ok.take 1
    ports.foldl (fun b j => b.sendHostEvent j (eventBytes e lvl (b.g pgFC (FC_CLASS_CFG_LINE c)))) b

/-- The EVENT of class `c` for its last fault. -/
def Block.sendClass (b : Block) (c : Nat) (all : Bool) : Block :=
  match b.fcLast c with | some e => b.sendEvent c e all | none => b

/-! ### Containment (R371) -/

/-- The object that a fault's containment isolates, as kind and id (16 R493): 0 a link, 1 a node, 2 an NI. -/
def containObject (e : Event) : Option (Nat × Nat) :=
  if e.cls = clLINK ∨ e.cls = clMARGIN then
    if 448 ≤ e.src then none
    else if e.detail < 4 then (linkIndex (e.src / 4) e.detail).map (fun j => (0, j))
    else (localNi (e.src / 4) (e.detail - 4)).map (fun q => (2, q.1))
  else if e.cls = clNODE ∨ e.cls = clTIME then (if e.src < 448 then some (1, e.src / 4) else none)
  else if e.cls = clNI ∨ e.cls = clENDPOINT then
    (if 448 ≤ e.src ∧ e.src < 880 then some (2, (e.src - 448) / 2) else none)
  else if e.cls = clMEMCE ∨ e.cls = clMEMUE then (if e.detail < 8 then some (2, 192 + e.detail) else none)
  else if e.cls = clGATE ∨ e.cls = clSEC then
    if e.detail = 0x1FF then some (2, 215)
    else if e.detail < 200 ∨ (205 ≤ e.detail ∧ e.detail < 215) then some (2, e.detail) else none
  else none

-- DEDUCED (notes/assumptions/38.md)
def Block.containClass (b : Block) (c : Nat) : Block :=
  match (b.fcLast c).bind containObject with
  | some o => b.isolate o.1 o.2 (.contain c)
  | none => b

/-! ### The safe state (R73, R374) -/

def safeBody (edge cls src aborted : Nat) : List Byte :=
  recBody [(0x40, leBytes 1 edge), (0x41, leBytes 1 cls), (0x42, leBytes 2 src), (0x44, leBytes 1 aborted)]

/-- A change that has not passed step 5 of R68 is cancelled and waits at the head of the queue (R73). -/
def Block.cancelChange (b : Block) : Block :=
  match b.stw.change with
  | some ch =>
    if ch.step ≤ 5 then
      { b.s pgSTW STW_STATUS_EPOCH_BUSY 0 with stw := { b.stw with change := none, queue := ch.cause :: b.stw.queue, tries := ch.tries } }
    else b
  | none => b

/-- Class `c` takes the fabric into the safe state. -/
def Sys.safeEntry (w : Sys) (c : Nat) : Sys :=
  let w := w.upd (fun b => ((b.s pgFC FC_STATUS_SAFE 1).wrapInc pgFC FC_STATUS_SAFE_SEQ).cancelChange)
  let r := w.abortUndecided 4 2
  r.2.upd (fun b =>
    let src := match b.fcLast c with | some e => e.src | none => 0
    ((b.cancelSwap).pushRec tySAFE (safeBody 1 c src r.1)).sendClass c true)

/-! ### Levels (R364-R367) -/

-- DEDUCED (notes/assumptions/38.md)
/-- Class `c` rises to level `new`. -/
def Sys.rise (w : Sys) (c new : Nat) : Sys :=
  let old := w.blk.fcLevel c
  let w := w.upd (fun b => (b.s pgFC (FC_LEVEL c) new).setTimer c (if new < 3 then some (b.elapsed + b.ackTime c) else none))
  let w := if new = 3 ∧ w.blk.safe = false then w.safeEntry c
    else if 0 < old ∨ 2 ≤ new ∨ w.blk.on pgFC (FC_CLASS_CFG_EVENT_EN c) = true then w.upd (fun b => b.sendClass c false)
    else w
  if 2 ≤ new then w.upd (fun b => b.containClass c) else w

-- DEDUCED (notes/assumptions/86.md)
/-- The steward could not exclude what class `c` contained: the class rises to L3 (R372). -/
def Sys.containFails (w : Sys) (c : Nat) : Sys :=
  if w.blk.fcPend c && decide (w.blk.fcLevel c < 3) then w.rise c 3 else w

/-- FC_FIRST takes the first fault raised while no class is pending (R370). -/
def Block.noteFirst (b : Block) (e : Event) (lvl : Nat) : Block :=
  if b.g pgFC FC_PEND_PEND = 0 then
    ((((b.s pgFC FC_FIRST_SOURCE e.src).s pgFC FC_FIRST_LEVEL lvl).s pgFC FC_FIRST_CLASS e.cls).s pgFC FC_FIRST_VALID 1).s64
      pgFC FC_FIRST_STAMP e.stamp.toNat
  else b

/-- The class holds the source and its fault. -/
def Block.noteSource (b : Block) (e : Event) : Block :=
  let ss := AMap.get [] b.fc.srcs e.cls
  { b.setBitAt pgFC FC_SRC_PEND e.src true with
    fc := { b.fc with last := AMap.set none b.fc.last e.cls (some e),
                      srcs := AMap.set [] b.fc.srcs e.cls (if ss.contains e.src then ss else ss ++ [e.src]) } }

/-- One fault of level `lvl` ≥ 1 (R365, R366). -/
def Sys.fault (w : Sys) (e : Event) (lvl : Nat) : Sys :=
  let c := e.cls
  let b := w.blk
  if !b.fcPend c then
    (w.upd (fun b =>
      ((b.noteFirst e lvl).noteSource e).s pgFC ⟨FC_PEND_PEND.off, c, 1⟩ 1 |>.s pgFC ⟨FC_ACK_ACK.off, c, 1⟩ 0)).rise c lvl
  else
    let w := w.upd (fun b => b.noteSource e)
    let l := b.fcLevel c
    if b.fcAcked c then
      if l < lvl then (w.upd (fun b => b.s pgFC ⟨FC_ACK_ACK.off, c, 1⟩ 0)).rise c lvl else w
    else
      let new := max lvl (b.escalated c l)
      if l < new then w.rise c new else w

/-! ### EVENT_RECEIVE (R360, R362, R387, R388) -/

/-- FC_LOG takes the event. -/
def Block.logEvent (b : Block) (e : Event) (lvl : Nat) : Block :=
  let o := FC_LOG (b.g pgFC FC_LOG_PTR_NEXT)
  let w0 := e.src + lvl * 2 ^ 10 + e.cls * 2 ^ 12 + e.merged * 2 ^ 16 + 2 ^ 24
  let b := ((b.wr pgFC o (BitVec.ofNat 32 w0)).wr pgFC (o + 4) (BitVec.ofNat 32 e.detail)).s64 pgFC (o + 8) e.stamp.toNat
  (b.wrapInc pgFC FC_LOG_PTR_NEXT).wrapInc pgFC FC_LOG_PTR_TOTAL

/-- The collector takes an event. -/
def Sys.collect (w : Sys) (e : Event) : Sys :=
  let c := e.cls
  let lvl := max e.lvl (w.blk.g pgFC (FC_CLASS_CFG_FLOOR c))
  let w := w.upd (fun b =>
    let b := b.bump pgFC (FC_COUNT c) (1 + e.merged)
    if 0 < lvl ∨ b.on pgFC (FC_CLASS_CFG_LOG_L0 c) = true then b.logEvent e lvl else b)
  if lvl = 0 then w
  else
    let w := w.fault e lvl
    if 0 < e.merged then w.fault e lvl else w

/-- Does the packet bring NI 208 an event of class `c` from source `src`? -/
def Packet.brings (p : Packet) (src c : Nat) : Bool :=
  p.opc == oEVENT && (eventOf (p.bytes 16)).src == src && (eventOf (p.bytes 16)).cls == c

-- DEDUCED (notes/assumptions/104.md)
/-- An event of class `c` from source `src` reaches the collector: in an EVENT packet that NI 208 has accepted, or, from an origin that
sends none, over the rhizine chain or a direct link inside AO (R360). -/
def Sys.eventReceive (w : Sys) (src c : Nat) : Sys :=
  match takeFirst (fun p => p.brings src c) (w.blk.ni 208).rx with
  | some (p, rest) => (w.upd (fun b => b.modNi 208 (fun x => { x with rx := rest }))).collect (eventOf (p.bytes 16))
  | none =>
    if w.blk.byPacket src then w
    else match takeFirst (fun e => e.src == src && e.cls == c) w.blk.events with
      | none => w
      | some (e, rest) => (w.upd (fun b => { b with events := rest })).collect e

def execEventReceive (src cls : Nat) (s : State) : Host.Outcome State Fault Refusal :=
  need (decide (src < 1024) && decide (cls < 16)) (run (fun w => w.eventReceive src cls) s)

/-! ### ACK_TIMER_EXPIRY, FAULT_ACK, FAULT_CLEAR (R367-R369) -/

def Sys.ackTimerExpiry (w : Sys) (c : Nat) : Sys :=
  match w.blk.fcTimer c with
  | none => w
  | some t =>
    let w := w.upd (fun b => (b.until t).setTimer c none)
    let l := w.blk.fcLevel c
    let new := w.blk.escalated c l
    if l < new then w.rise c new else w

def execAckTimerExpiry (c : Nat) (s : State) : Host.Outcome State Fault Refusal :=
  need (decide (c < 16)) (run (fun w => w.ackTimerExpiry c) s)

/-- A write of `v` to FC_ACK. -/
def Block.faultAck (b : Block) (v : Word) : Block :=
  (having 16 (fun c => bit v.toNat c && b.fcPend c)).foldl (fun b c =>
    (b.s pgFC ⟨FC_ACK_ACK.off, c, 1⟩ 1).setTimer c none) b

def execFaultAck (w : Word) (s : State) : Host.Outcome State Fault Refusal := runB (fun b => b.faultAck w) s

/-- Clear class `c`. A source keeps its bit while another pending class holds a fault of it. -/
def Block.clearClass (b : Block) (c : Nat) : Block :=
  let mine := AMap.get [] b.fc.srcs c
  let b := { b with fc := { b.fc with srcs := AMap.set [] b.fc.srcs c [], last := AMap.set none b.fc.last c none } }
  let gone := mine.filter (fun s => decide (s < 1024) && !b.fc.srcs.any (fun q => q.2.contains s))
  let b := gone.foldl (fun b s => b.setBitAt pgFC FC_SRC_PEND s false) b
  (((b.s pgFC ⟨FC_PEND_PEND.off, c, 1⟩ 0).s pgFC ⟨FC_ACK_ACK.off, c, 1⟩ 0).s pgFC (FC_LEVEL c) 0).setTimer c none

/-- A write of `v` to FC_PEND. -/
def Block.faultClear (b : Block) (v : Word) : Block :=
  (having 16 (fun c => bit v.toNat c && b.fcPend c)).foldl (fun b c => b.clearClass c) b

def execFaultClear (w : Word) (s : State) : Host.Outcome State Fault Refusal := runB (fun b => b.faultClear w) s

/-! ### SAFE_EXIT (R376) -/

/-- A write of `v` to FC_SAFE by group `mg` through a host port or the service port. -/
def Block.safeExit (b : Block) (v : Word) (mg : Nat) : Block :=
  if b.safe && mg == 0 && b.g pgFC FC_PEND_PEND == 0 && !b.on pgFC FC_STATUS_COLLECT_ERR &&
      bitsOf v.toNat 16 16 == 0xE71D && bitsOf v.toNat 0 8 == b.g pgFC FC_STATUS_SAFE_SEQ then
    (b.s pgFC FC_STATUS_SAFE 0).pushRec tySAFE (safeBody 2 0 0 0)
  else b.s pgFC FC_STATUS_EXIT_REFUSED 1

def execSafeExit (w : Word) (mg : Nat) (s : State) : Host.Outcome State Fault Refusal :=
  runB (fun b => b.safeExit w mg) s

/-! ### HELD_EVENTS_SEND (R379) -/

/-- NI 208's map marks a host port REACHABLE: what is held goes out. -/
def Block.heldSend (b : Block) : Block :=
  if b.on pgFC FC_STATUS_HELD = true ∧ b.eventHosts ≠ [] then
    let h := b.fc.heldEv
    let b := { b.s pgFC FC_STATUS_HELD 0 with fc := { b.fc with heldEv := [] } }
    h.foldl (fun b q => match q.2 with | some (e, all) => b.sendEvent q.1 e all | none => b) b
  else b

def execHeldEventsSend (s : State) : Host.Outcome State Fault Refusal := runB Block.heldSend s

/-! ### Pins (R377) -/

/-- The levels of FAULT_N and SAFE_N: both low until the collector leaves reset. -/
def Block.faultN (b : Block) : Bool := b.pins.porst && (b.dom domAO).up && b.g pgFC FC_PEND_PEND == 0
def Block.safeN (b : Block) : Bool := b.pins.porst && (b.dom domAO).up && !b.safe

/-! ### COLLECTOR_MISMATCH (R380) -/

-- DEDUCED (notes/assumptions/36.md)
/-- The copies disagree, or parity fails; `good` says that one copy has good parity. The repair makes the copies agree again. -/
def Sys.collectorMismatch (w : Sys) (parity good : Bool) : Sys :=
  let w := w.upd (fun b => b.raise (srcFC (b2n parity)) clCOLLECTOR 3)
  if good then w
  else
    let w := w.upd (fun b => (List.range 16).foldl (fun b c => b.wr pgFC (0x080 + 4 * c) (resetWord pgFC (0x080 + 4 * c))) b)
    (having 16 (fun c => w.blk.fcPend c)).foldl (fun w c => if w.blk.fcLevel c < 3 then w.rise c 3 else w) w

def execCollectorMismatch (parity good : Bool) (s : State) : Host.Outcome State Fault Refusal :=
  run (fun w => w.collectorMismatch parity good) s

end Sys2Proof.Machine
end

