-- ==== Sys2Proof/Machine/Cartridge.lean ====
section
/-! DEFINITION. The cartridge port and the wear ledger, with the commands CART_INSERT to SIGNATURE_VERIFY_END (17). -/
namespace Sys2Proof.Machine

/-! ### Places (R502, R505, R506) -/

/-- The pending count of element `e`. -/
def pendAddr (e : Nat) : Nat := retentionAddr + 0x28000 + 8 * e
def wearRecAddr (s : Nat) : Nat := ledgerAddr + 0x90000 + 0x12000 * s
def wearAddr (s e : Nat) : Nat := wearRecAddr s + 6 * e

def elements : Nat := 12288

/-- META bytes of entries `lo` to `lo + n - 1` of record `s`. -/
def Sys.meta (w : Sys) (s lo n : Nat) : List Byte := (List.range n).map (fun j => w.mem.byteAt (wearAddr s (lo + j) + 5))

def Sys.setMeta (w : Sys) (s lo : Nat) (bs : List Byte) : Sys :=
  bs.zipIdx.foldl (fun w q => w.write (wearAddr s (lo + q.2) + 5) [q.1]) w

def Sys.recIdentity (w : Sys) (s : Nat) : List Byte := w.meta s 0 16
def Sys.recSeq (w : Sys) (s : Nat) : Nat := leNat (w.meta s 16 4)
def Sys.recFlags (w : Sys) (s : Nat) : Nat := leNat (w.meta s 20 1)
def zero16 : List Byte := List.replicate 16 0

/-- Bytes of the cartridge's identity memory. -/
def Cp.bytes (c : Cp) (off len : Nat) : List Byte := (List.range len).map (fun j => AMap.get 0 c.image (off + j))
def Cp.identity (c : Cp) : List Byte := c.bytes 0x10 16
def Cp.isSigned (c : Cp) : Bool := (AMap.get 0 c.image 5).toNat.testBit 0
def Cp.rating (c : Cp) (e : Nat) : Nat := leNat (c.bytes (0x20 + 4 * e) 4)

/-- Is the identity record good: MAGIC, FORMAT, an identity that is not zero (R503)? -/
def Cp.good (c : Cp) : Bool :=
  leNat (c.bytes 0 4) == 0x4E444352 && (AMap.get 0 c.image 4) == 1 && c.identity != zero16

def cpABSENT : Nat := 0
def cpREADING : Nat := 1
def cpPRESENT : Nat := 2
def cpBAD : Nat := 3

def Block.cpState (b : Block) : Nat := b.g pgCP CP_STATUS_STATE
def Block.modCp (b : Block) (f : Cp → Cp) : Block := { b with cp := f b.cp }

/-! ### Collect and transfer (R505) -/

-- DESIGN CHOICE (notes/assumptions/42.md)
/-- A 40-bit sum. The spec states no result past 40 bits. -/
def Sys.sum40 (w : Sys) (x y : Nat) : Nat × Sys :=
  if x + y < 2 ^ 40 then (x + y, w)
  else let f := w.blk.fresh; (f.1 % 2 ^ 40, { w with blk := f.2 })

/-- Read and clear one wear counter of loop NI `i` into the pending area. -/
def Sys.collectOne (w : Sys) (i j : Nat) : Sys :=
  let n := w.blk.g64 (pgNi i) (NI_WEAR j)
  if n = 0 then w
  else
    let a := pendAddr (64 * i + j)
    let r := w.sum40 (leNat (rawBytes w.mem a 5)) n
    (r.2.write a (leBytes 8 r.1)).upd (fun b => b.s64 (pgNi i) (NI_WEAR j) 0)

/-- Collect every loop NI of the domains `ds`; a transfer is then due. -/
def Sys.collectWear (w : Sys) (ds : List Nat) : Sys :=
  let is := having 192 (fun i => ds.contains (domOfNi i))
  let w := is.foldl (fun w i => (List.range 64).foldl (fun w j => w.collectOne i j) w) w
  w.upd (fun b => b.modCp (fun c => { c with xferDue := true }))

def Block.onLoopDoms (b : Block) : List Nat := having 16 (fun d => b.domState d == 0)

/-- Elements whose pending count is not zero. -/
def Sys.pendingElements (w : Sys) : List Nat :=
  ((w.mem.cells.filter (fun c => decide (pendAddr 0 ≤ c.1) && decide (c.1 < pendAddr elements))).map
    (fun c => (c.1 - pendAddr 0) / 8)).eraseDups

/-- Does the entry of element `e` lie in a 16-byte word of the record that read back wrong? -/
def badEntry (bad : List Nat) (e : Nat) : Bool := bad.contains (6 * e / 16) || bad.contains ((6 * e + 5) / 16)

/-- Transfer one element into record `s`. A word that reads back wrong keeps its pending entries, and its counts are open. -/
def Sys.transferOne (w : Sys) (s : Nat) (bad : List Nat) (e : Nat) : Sys :=
  let n := leNat (rawBytes w.mem (pendAddr e) 5)
  if badEntry bad e then
    let f := w.blk.fresh
    ({ w with blk := f.2 }).write (wearAddr s e) (leBytes 5 f.1)
  else
    let old := leNat (rawBytes w.mem (wearAddr s e) 5)
    (w.write (wearAddr s e) (leBytes 5 (min (2 ^ 40 - 1) (old + n)))).write (pendAddr e) (leBytes 8 0)

-- DEDUCED (notes/assumptions/43.md)
def Sys.transfer (w : Sys) (bad : List Nat) : Sys :=
  let es := w.pendingElements
  let w := match w.blk.cp.openRec with
    | none => es.foldl (fun (w : Sys) e => w.write (pendAddr e) (leBytes 8 0)) w
    | some s =>
      let w := es.foldl (fun (w : Sys) e => w.transferOne s bad e) w
      if es.any (badEntry bad) then w.upd (fun b => (b.s pgLG LG_WEAR_STAT_FLUSH_ERR 1).raise (srcLG 1) clLEDGER 1) else w
  w.upd (fun b => (b.wrapInc pgLG LG_WEAR_STAT_FLUSHES).modCp (fun c =>
    { c with lastXfer := some b.elapsed, xferDue := false, walkDue := b.cpState == cpPRESENT }))

def Block.mayTransfer (b : Block) : Bool :=
  match b.cp.lastXfer with | some t => decide (t + secUnits ≤ b.elapsed) | none => true

/-! ### Opening a record (R507) -/

/-- The record that an identity takes: a match, the lowest free, or the one with the lowest USE_SEQ; true if it is replaced. -/
def Sys.chooseRecord (w : Sys) (ident : List Byte) : Nat × Bool :=
  match (List.range 8).find? (fun s => w.recIdentity s == ident) with
  | some s => (s, false)
  | none =>
    match (List.range 8).find? (fun s => w.recIdentity s == zero16) with
    | some s => (s, false)
    | none => ((List.range 8).foldl (fun m s => if w.recSeq s < w.recSeq m then s else m) 0, true)

/-- Zero the counts and META bytes 0-21 of record `s`. -/
def Sys.clearRecord (w : Sys) (s : Nat) : Sys :=
  let mine := w.mem.cells.filter (fun c => decide (wearRecAddr s ≤ c.1) && decide (c.1 < wearRecAddr (s + 1)))
  let kept (a : Nat) : Bool := (a - wearRecAddr s) % 6 == 5 && decide (22 ≤ (a - wearRecAddr s) / 6)
  (mine.filter (fun c => !kept c.1)).foldl (fun w c => w.write c.1 [0]) w

/-- CP_ID and CP_LIFE's flags show the open record. -/
def Sys.showCart (w : Sys) : Sys :=
  let ident := if w.blk.cpState = cpPRESENT then w.blk.cp.identity else zero16
  let fl := match w.blk.cp.openRec with | some s => w.recFlags s | none => 0
  w.upd (fun b =>
    let b := (List.range 4).foldl (fun b j => b.wr pgCP (CP_ID + 4 * j) (BitVec.ofNat 32 (leNat (sliceBytes ident (4 * j) 4)))) b
    ((b.s pgCP CP_LIFE_W80 (bitsOf fl 1 1)).s pgCP CP_LIFE_W95 (bitsOf fl 2 1)).s pgCP CP_LIFE_W100 (bitsOf fl 3 1))

-- DEDUCED (notes/assumptions/40.md)
def Sys.openRecord (w : Sys) (ident : List Byte) : Sys :=
  let r := w.chooseRecord ident
  let s := r.1
  let w := if r.2 then (w.clearRecord s).upd (fun b => b.raise (srcCP 0) clCART 1) else w
  let seq := w.blk.cp.useSeq + 1
  let w := ((w.setMeta s 0 ident).setMeta s 16 (leBytes 4 seq)).setMeta s 20 (leBytes 1 (putBits (w.recFlags s) 0 1 1))
  let w := (List.range 8).foldl (fun w j =>
    if j = s then w else w.setMeta j 20 (leBytes 1 (putBits (w.recFlags j) 0 1 0))) w
  let used := ((List.range 8).filter (fun j => w.recIdentity j != zero16)).length
  w.upd (fun b =>
    (((b.modCp (fun c => { c with openRec := some s, useSeq := seq })).s pgCP CP_STATUS_SLOT s).s pgLG LG_WEAR_STAT_SLOT s).s
      pgLG LG_WEAR_STAT_USED used)

/-! ### A change (R503, R511) -/

def cartBody (old new : List Byte) (sig slot : Nat) : List Byte :=
  recBody [(0x40, old), (0x50, new), (0x60, leBytes 1 sig), (0x61, leBytes 1 slot)]

-- DESIGN CHOICE (notes/assumptions/42.md)
/-- The EVL gets the data of CART_CHANGE. On a removal no slot is in use, and WEAR_SLOT is open. -/
def Block.cartChanged (b : Block) : Block :=
  match b.cp.openRec with
  | some s => b.pushRec tyCART_CHANGE (cartBody b.cp.oldId b.cp.identity (b.g pgCP CP_STATUS_SIGNED) s)
  | none => let f := b.fresh; f.2.pushRec tyCART_CHANGE (cartBody b.cp.oldId zero16 0 (f.1 % 256))

/-- Steps 2 to 4 of R503: open the record; a signed identity is verified before CART_CHANGE (`forms`). -/
def Sys.present (w : Sys) (forms : Bool) : Sys :=
  let w := w.openRecord w.blk.cp.identity
  let w := (w.upd (fun b => (b.s pgCP CP_STATUS_STATE cpPRESENT).s pgCP CP_STATUS_SIGNED 0)).showCart
  w.upd (fun b =>
    if b.cp.isSigned then b.modCp (fun c => { c with verifying := true, forms := forms })
    else if forms then b.cartChanged else b)

/-- The old record is closed: what the change leads to. -/
def Sys.finishChange (w : Sys) : Sys :=
  let w := w.upd (fun b => (b.bump pgCP CP_STATUS_CHANGES).modCp (fun c => { c with changing := false, openRec := none }))
  if w.blk.cpState = cpREADING then (w.present true).upd (fun b => b.modCp (fun c => { c with walkDue := true }))
  else (w.upd (fun b => b.cartChanged)).showCart

def Sys.runTransfer (w : Sys) (bad : List Nat) : Sys :=
  let w := w.transfer bad
  if w.blk.cp.changing then w.finishChange else w

/-- Step 1 of R511, and the rest where the transfer need not wait. -/
def Sys.startChange (w : Sys) (bad : List Nat) : Sys :=
  let old := match w.blk.cp.openRec with | some s => w.recIdentity s | none => zero16
  let w := (w.collectWear w.blk.onLoopDoms).upd (fun b => b.modCp (fun c => { c with changing := true, oldId := old }))
  if w.blk.mayTransfer then w.runTransfer bad else w

/-- A change that waits for its transfer is completed first. -/
def Sys.settleChange (w : Sys) : Sys :=
  if w.blk.cp.changing then
    (w.upd (fun b => match b.cp.lastXfer with | some t => b.until (t + secUnits) | none => b)).runTransfer []
  else w

/-- The level of CART_PRESENT_N, and the identity memory behind it. -/
def Block.cartLevel (b : Block) (on : Bool) (image : List (Nat × Byte)) : Block :=
  let im := (image.filter (fun q => q.1 < 0xC060)).foldl (fun m q => AMap.set 0 m q.1 q.2) []
  { b with pins := { b.pins with cart := on } }.modCp (fun c => { c with image := im })

-- DEDUCED (notes/assumptions/41.md)
/-- CART_PRESENT_N has been low for 10 ms. Three bad reads 10 ms apart end in BAD. A change while PORST_N is low is for the crozier to read
(19 R542). -/
def Sys.cartInsert (w : Sys) (image : List (Nat × Byte)) : Sys :=
  if w.blk.pins.cart then w
  else if w.blk.pins.porst = false then w.upd (fun b => b.cartLevel true image)
  else
    let w := (w.upd (fun b => b.advance tenMs)).settleChange
    let w := w.upd (fun b => (b.cartLevel true image).s pgCP CP_STATUS_STATE cpREADING)
    let w := w.upd (fun b => b.wakeFrom (b.wakeSetOf wCART) wCART)
    if w.blk.cp.good then w.startChange []
    else w.upd (fun b => ((b.advance (2 * tenMs)).s pgCP CP_STATUS_STATE cpBAD).raise (srcCP 0) clCART 1)

def execCartInsert (image : List (Nat × Byte)) (s : State) : Host.Outcome State Fault Refusal := run (fun w => w.cartInsert image) s

/-- CART_PRESENT_N has been high for 10 ms. A read, a verification and a walk end. A cartridge in BAD counted as absent. -/
def Sys.cartRemove (w : Sys) (bad : List Nat) : Sys :=
  if w.blk.pins.cart = true ∧ w.blk.pins.porst = false then w.upd (fun b => b.cartLevel false [])
  else if w.blk.pins.cart then
    let w := w.upd (fun b =>
      let b := (b.advance tenMs).cartLevel false []
      ((b.s pgCP CP_STATUS_STATE cpABSENT).s pgCP CP_STATUS_SIGNED 0).s pgCP CP_STATUS_WALK_BUSY 0 |>.modCp
        (fun c => { c with verifying := false, walkDue := false }))
    if w.blk.cp.openRec.isSome ∧ w.blk.cp.changing = false then w.startChange bad else w.showCart
  else w

def execCartRemove (badWords : List Nat) (s : State) : Host.Outcome State Fault Refusal := run (fun w => w.cartRemove badWords) s

/-- The anchor that the wear records hold, if one is installed. -/
def Sys.anchor (w : Sys) : List Byte := w.meta 0 32 32

/-- Verification of a signed identity record ends (R503, R504). -/
def Sys.signatureVerifyEnd (w : Sys) : Sys :=
  if w.blk.cp.verifying then
    let c := w.blk.cp
    let ok := w.blk.on pgCP CP_STATUS_ANCHOR_SET && edVerify w.anchor (c.bytes 0 0xC020) (c.bytes 0xC020 64)
    let w := w.upd (fun b => (b.s pgCP CP_STATUS_SIGNED (if ok then 1 else 2)).modCp
      (fun c => { c with verifying := false, forms := false }))
    let w := if ok then w else w.upd (fun b => b.raise (srcCP 0) clCART 1)
    if c.forms then w.upd (fun b => b.cartChanged) else w
  else w

def execSignatureVerifyEnd (s : State) : Host.Outcome State Fault Refusal := run Sys.signatureVerifyEnd s

-- DEDUCED (notes/assumptions/40.md)
/-- The crozier reads the cartridge (R507): one that matches the ACTIVE record is no change, and LOSSES of that record rises. -/
def Sys.crozierCart (w : Sys) : Sys :=
  let w := w.upd (fun b => b.modCp (fun c => { c with changing := false, verifying := false, openRec := none, walkDue := false }))
  if w.blk.pins.cart = false then w.showCart
  else if w.blk.cp.good = false then
    (w.upd (fun b => (b.s pgCP CP_STATUS_STATE cpBAD).raise (srcCP 0) clCART 1)).showCart
  else
    let w := w.upd (fun b => b.s pgCP CP_STATUS_STATE cpREADING)
    let ident := w.blk.cp.identity
    match (List.range 8).find? (fun s => (w.recFlags s).testBit 0 && w.recIdentity s != zero16) with
    | some s =>
      if w.recIdentity s = ident then (w.setMeta s 21 (leBytes 1 (satAdd 8 (leNat (w.meta s 21 1)) 1))).present false
      else (w.upd (fun b => (b.bump pgCP CP_STATUS_CHANGES).modCp (fun c => { c with oldId := w.recIdentity s }))).present true
    | none => (w.upd (fun b => (b.bump pgCP CP_STATUS_CHANGES).modCp (fun c => { c with oldId := zero16 }))).present true

/-- CP_ANCHOR and ANCHOR_SET show the anchor that the ledger holds (R504, R513: CP_ANCHOR resets to it). -/
def Sys.showAnchor (w : Sys) : Sys :=
  let k := w.anchor
  w.upd (fun b =>
    ((List.range 8).foldl (fun b j => b.wr pgCP (CP_ANCHOR j) (BitVec.ofNat 32 (leNat (sliceBytes k (4 * j) 4)))) b).s
      pgCP CP_STATUS_ANCHOR_SET (b2n (k != zero32)))

/-! ### ANCHOR_INSTALL (R504) -/

def Block.cpRefused (b : Block) : Block := b.s pgCP CP_STATUS_WR_REFUSED 1

def Block.anchorOk (b : Block) (mg : Nat) : Bool := b.lcState == lcSEAL && !b.lcInvalid && mg == 0

def Sys.anchorInstall (w : Sys) (mg : Nat) : Sys :=
  if w.blk.anchorOk mg then
    let k := (List.range 8).flatMap (fun j => leBytes 4 (w.blk.rd pgCP (CP_ANCHOR j)).toNat)
    ((List.range 8).foldl (fun w s => w.setMeta s 32 k) w).upd (fun b => b.s pgCP CP_STATUS_ANCHOR_SET 1)
  else w.upd Block.cpRefused

def execAnchorInstall (mg : Nat) (s : State) : Host.Outcome State Fault Refusal := run (fun w => w.anchorInstall mg) s

/-! ### WEAR_COLLECT, WEAR_TRANSFER (R505) -/

def minute : Nat := 60 * secUnits

/-- Device time reaches the next whole second that is a multiple of 60. A collect due while a change waits is merged into it. -/
def Sys.wearCollect (w : Sys) : Sys :=
  let w := w.upd (fun b => b.untilTime ((b.now / minute + 1) * minute))
  if w.blk.cp.changing then w else w.collectWear w.blk.onLoopDoms

def execWearCollect (s : State) : Host.Outcome State Fault Refusal := run Sys.wearCollect s

-- DEDUCED (notes/assumptions/43.md)
/-- The due transfer starts, at the earliest 1 s after the last. -/
def Sys.wearTransfer (w : Sys) (bad : List Nat) : Sys :=
  if w.blk.cp.xferDue then
    (w.upd (fun b => match b.cp.lastXfer with | some t => b.until (t + secUnits) | none => b)).runTransfer bad
  else w

def execWearTransfer (badWords : List Nat) (s : State) : Host.Outcome State Fault Refusal :=
  run (fun w => w.wearTransfer badWords) s

/-! ### Life (R508, R509) -/

def Block.startWalk (b : Block) : Block :=
  if b.cpState = cpPRESENT ∧ b.on pgCP CP_STATUS_WALK_BUSY = false then
    (b.s pgCP CP_STATUS_WALK_BUSY 1).modCp (fun c => { c with walkDue := false })
  else b

/-- The walk that follows a transfer. -/
def Block.lifeWalk (b : Block) : Block := if b.cp.walkDue then b.startWalk else b

def execLifeWalk (s : State) : Host.Outcome State Fault Refusal := runB Block.lifeWalk s
def execLifeWalkRequest (s : State) : Host.Outcome State Fault Refusal := runB Block.startWalk s

/-- Elements with a rating, in rising order. -/
def Cp.rated (c : Cp) : List Nat :=
  ((c.image.filter (fun q => decide (0x20 ≤ q.1) && decide (q.1 < 0xC020))).map (fun q => (q.1 - 0x20) / 4)).eraseDups

def Sys.life (w : Sys) (s e : Nat) : Nat := leNat (rawBytes w.mem (wearAddr s e) 5) * 100 / w.blk.cp.rating e

/-- The element with the greatest life, the lowest of equals: its index and life. -/
def Sys.worst (w : Sys) (s : Nat) : Nat × Nat :=
  w.blk.cp.rated.foldl (fun m e => let l := w.life s e; if m.2 < l then (e, l) else m)
    (w.blk.cp.rated.headD 0, 0)

/-- Flag bit `j` of record `s` is set, with its event, when life first reaches `pct`. -/
def Sys.threshold (w : Sys) (s life j pct lvl : Nat) : Sys :=
  if pct ≤ life ∧ (w.recFlags s).testBit j = false then
    (w.setMeta s 20 (leBytes 1 (putBits (w.recFlags s) j 1 1))).upd (fun b => b.raise (srcCP 1) clCART lvl)
  else w

/-- A walk ends. -/
def Sys.walkComplete (w : Sys) : Sys :=
  match w.blk.on pgCP CP_STATUS_WALK_BUSY, w.blk.cp.openRec with
  | true, some s =>
    let m := w.worst s
    let w := w.upd (fun b => ((b.s pgCP CP_STATUS_WALK_BUSY 0).s pgCP CP_LIFE_WORST m.1).s pgCP CP_LIFE_PCT (min 2047 m.2))
    (((w.threshold s m.2 1 80 0).threshold s m.2 2 95 1).threshold s m.2 3 100 1).showCart
  | _, _ => w

def execWalkComplete (s : State) : Host.Outcome State Fault Refusal := run Sys.walkComplete s

end Sys2Proof.Machine
end

