-- ==== Sys2Proof/Machine/Commit.lean ====
section
/-! DEFINITION. Shadowed fields: the commands PAGE_COMMIT and SHADOW_DISCARD (18 R525, R526; 04 R100, R103, R104; 03 R90). -/
namespace Sys2Proof.Machine

/-- The block behind page `p` is powered and out of reset, so its page acts. -/
def Block.pageUp (b : Block) (p : Nat) : Bool := (b.dom (domOfPage p)).up

/-- BAD of a profile: its shadow ranks do not name four classes. -/
def Block.badProfile (b : Block) (n p : Nat) : Bool :=
  let r := b.g (pgNode n) (NODE_ARB_PROFILE_RANKS p)
  ((List.range 4).map (fun i => bitsOf r (2 * i) 2)).eraseDups.length != 4

def laneOffsets : List Nat := (List.range 8).map (fun i => 0x100 + 4 * i)

/-- A PG_COMMIT of a node's page: the lane maps at once, the arbitration part at its frame boundary unless it is refused. -/
def Block.nodeCommit (b : Block) (n : Nat) : Block :=
  let pg := pgNode n
  let b := b.dueArb n
  let b := laneOffsets.foldl (fun b o => b.wrLive pg o (b.rd pg o)) (b.wrapInc pg PG_COMMIT_COUNT)
  if (List.range 4).any (fun p => b.badProfile n p) then (b.s pg NODE_ARB_REFUSED 1).raise (srcNode n 1) clNODE 1
  else if (b.node n).arbAt.isSome then b
  else (b.s pg NODE_ARB_PEND 1).modNode n (fun x => { x with arbAt := some (frameBoundaryAfter (b.cellNs n)) })

/-- A write of PG_COMMIT to page `p`. -/
def Block.commitPage (b : Block) (p : Nat) : Block :=
  if b.pageUp p = false then b
  else if p < 112 then b.nodeCommit p
  else if p = pgGT then b.mapDistribute
  else b.wrapInc p PG_COMMIT_COUNT

def execPageCommit (page : Nat) (s : State) : Host.Outcome State Fault Refusal :=
  need (isPage page) (runB (fun b => b.commitPage page) s)

-- DEDUCED (notes/assumptions/83.md)
/-- The live value of every RWS field of a word goes to its shadow. -/
def Block.discardWord (b : Block) (p off : Nat) : Block :=
  let w := (fieldsAt p off).foldl (fun n f =>
    if f.acc = .rws then putBits n f.lo f.w (bitsOf (b.rdLive p off).toNat f.lo f.w) else n) (b.rd p off).toNat
  b.wr p off (BitVec.ofNat 32 w)

-- DEDUCED (notes/assumptions/83.md)
/-- Offsets of the words that hold RWS fields. -/
def rwsOffsets (p : Nat) : List Nat :=
  (layout p).flatMap (fun r => if r.fields.any (fun f => f.acc == .rws) then (List.range r.count).map (fun j => r.off + r.stride * j) else [])

def Block.activationPending (b : Block) (p : Nat) : Bool :=
  (decide (p < 112) && (b.node p).arbAt.isSome) || (p == pgGT && b.on pgGT GT_STATUS_MAP_PEND)

/-- A write of PG_CTRL.DISCARD to page `p`. -/
def Block.shadowDiscard (b : Block) (p : Nat) : Block :=
  if b.pageUp p = false then b
  else if b.activationPending p then b.s p PG_CTRL_REFUSED 1
  else (rwsOffsets p).foldl (fun b o => b.discardWord p o) b

def execShadowDiscard (page : Nat) (s : State) : Host.Outcome State Fault Refusal :=
  need (isPage page) (runB (fun b => b.shadowDiscard page) s)

end Sys2Proof.Machine
end

