-- ==== Sys2Proof/Machine/Domains.lean ====
section
/-! DEFINITION. What a domain holds: its pages and units, their reset, the retention images, and the hold of its ports
(13 R389-R408; 09 R284; 10 R322). -/
namespace Sys2Proof.Machine

/-! ### Units of a domain (00 R19; 18 R517) -/

def pagesOfDom (d : Nat) : List Nat :=
  let ns := nodesOfDom d
  let is := nisOfDom d
  ns.map pgNode ++ is.map pgNi ++ (if 16 ≤ d ∧ d < 24 then [pgFs (d - 16)] else []) ++
  (if d = domSD then [pgSTW, pgCSQ, pgMM, pgPR, pgGT]
   else if d = domAO then [pgTU, pgFC, pgEVL, pgCP, pgPM, pgLG, pgTOP] else []) ++
  ns.map pgCntNode ++ is.map pgCntNi

def activeSetOffsets : List Nat := (List.range 7).map (fun j => 0x060 + 4 * j)

/-- MM_SCRUB_POS of the always-on engines (11 R357). -/
def scrubKept : List Nat := [0x160, 0x164, 0x168]

/-- Pages and counters of a domain at their reset values; undelivered events of its sources are gone. -/
def Block.resetPages (b : Block) (d : Nat) : Block :=
  let ps := pagesOfDom d
  let keep := activeSetOffsets.map (fun o => (pgGT, o, b.rd pgGT o)) ++ scrubKept.map (fun o => (pgMM, o, b.rd pgMM o))
  let b := ps.foldl (fun b p => { b.resetPage p with cnt := AMap.drop b.cnt (p * 512) (p * 512 + 512) }) b
  let b := { b with events := b.events.filter (fun e => !ps.contains (pageOfSource e.src)) }
  if d = domSD then keep.foldl (fun b q => b.wr q.1 q.2.1 q.2.2) b else b

/-- A debug access that is outstanding when SD leaves ON ends ABORTED (19 R541). -/
def Block.debugAborts (b : Block) : Block :=
  if b.dbg.busy then { b with dbg := { b.dbg with busy := false, status := stABORT } } else b

-- DEDUCED (notes/assumptions/66.md)
/-- The units of SD that hold more than registers. The commit id resets at PORST only (06 R165), and the repairs in use stay. -/
def Block.resetSpineUnits (b : Block) : Block :=
  { b.debugAborts with
    csq := { cid := b.csq.cid }, mm := { rows := b.mm.rows, cols := b.mm.cols, backs := b.mm.backs.filter (fun a => (regionOf a).any (fun r => 8 ≤ r && r < 11)),
                                                scrubAt := b.mm.scrubAt.filter (fun q => decide (8 ≤ q.1) && decide (q.1 < 11)) }, pr := {}, gt := {}, ports := b.ports.filter (fun q => decide (q.1 < 8)),
    stw := { b.stw with change := none, queue := [], mbox := none, tables := [], testing := [], lanes := [],
                        stranded := [], tail := none, hostFailed := false, floorDue := false } }

/-- The logic of a domain at its reset values. Each NI's active-set bit is kept (R322), and so is a swap that it awaits (R320). -/
def Block.resetDom (b : Block) (d : Nat) : Block :=
  let b := b.resetPages d
  let ns := nodesOfDom d
  let is := nisOfDom d
  let b := { b with
    nodes := b.nodes.filter (fun q => !ns.contains q.1), cells := b.cells.filter (fun q => !ns.contains q.1),
    nis := (b.nis.filter (fun q => !is.contains q.1 || q.2.swapAt.isSome)).map (fun q =>
      if is.contains q.1 then (q.1, { swapAt := q.2.swapAt }) else q), fs := b.fs.filter (fun q => !(q.1 + 16 == d)), ports := b.ports.filter (fun q => !(q.1 + 16 == d)) }
  let b := ns.foldl (fun b n => b.wr pgTU (0x200 + 4 * n) (resetWord pgTU (0x200 + 4 * n))) b
  if d = domSD then b.resetSpineUnits else b

/-- Without a valid image, the active-set bits of a domain's NIs come back at their reset values (R322). -/
def Block.resetActive (b : Block) (d : Nat) : Block := (nisOfDom d).foldl (fun b i => b.setBitAt pgGT 0x060 i false) b

/-! ### Retention lists (R408) -/

def fullMask : Nat := 0xFFFFFFFF

/-- The bits of a word whose fields `ok` holds of. -/
def fieldMask (p off : Nat) (ok : Acc → Bool) : Nat :=
  (fieldsAt p off).foldl (fun m f => if ok f.acc then putBits m f.lo f.w fullMask else m) 0

def shadowed (a : Acc) : Bool := a == .rws || a == .sos

/-- The words of a page's layout with fields that `ok` holds of, each with its mask. -/
def pageWords (p : Nat) (ok : Acc → Bool) : List (Nat × Nat × Nat) :=
  (layout p).flatMap (fun r => (List.range r.count).filterMap (fun j =>
    let m := r.fields.foldl (fun m f => if ok f.acc then putBits m f.lo f.w fullMask else m) 0
    if m = 0 then none else some (p, r.off + r.stride * j, m)))

def headerWords (p : Nat) : List (Nat × Nat × Nat) := [(p, 0x014, fullMask), (p, 0x02C, fullMask)]

def nodeWords (n : Nat) : List (Nat × Nat × Nat) :=
  let p := pgNode n
  [(p, 0x040, 0xFF00), (p, 0x060, 0xFF00FF), (p, 0x064, 0xFF), (p, 0x068, 0xFF), (p, 0x06C, 0xFF)] ++
  (List.range 28).map (fun k => (p, 0x080 + 4 * k, fullMask)) ++ laneOffsets.map (fun o => (p, o, fullMask)) ++
  ([0, 1, 2, 3, 4, 5, 6, 8].map (fun k => (p, 0x140 + 4 * k, 0x3F)))

def loopNiWords (i : Nat) : List (Nat × Nat × Nat) :=
  let p := pgNi i
  [(p, 0x04C, 0xFF), (p, 0x060, 0xFF), (p, 0x064, 0xFFFF)] ++ (List.range 128).map (fun k => (p, 0x200 + 4 * k, fullMask))

-- DEDUCED (notes/assumptions/85.md)
/-- A bank's registers, and its NI's regions of both sets (10 R322). -/
def bankWords (k : Nat) : List (Nat × Nat × Nat) :=
  (List.range 128).map (fun j => (pgNi (192 + k), 0x200 + 4 * j, fullMask)) ++
  [(pgFs k, 0x054, 0xFF), (pgMM, 0x140 + 4 * k, fullMask)]

-- DEDUCED (notes/assumptions/85.md)
/-- Registers on a domain's retention list: page, offset, and the bits retained. -/
def retained (d : Nat) : List (Nat × Nat × Nat) :=
  (pagesOfDom d).flatMap headerWords ++ (nodesOfDom d).flatMap nodeWords ++
  (if d < 16 then (nisOfDom d).flatMap loopNiWords
   else if d < 24 then bankWords (d - 16)
   else if d = domSD then
     ([pgSTW, pgCSQ, pgMM, pgPR, pgGT] ++ (nisOfDom d).map pgNi).flatMap (fun p => pageWords p (fun a => a == .rw || a == .rws))
   else [])

/-- The value in force of a word: the live copy of its shadowed fields, the register for the rest. -/
def Block.inForce (b : Block) (p off : Nat) : Nat :=
  (fieldsAt p off).foldl (fun n f =>
    if shadowed f.acc then putBits n f.lo f.w (bitsOf (b.rdLive p off).toNat f.lo f.w) else n) (b.rd p off).toNat

def windowKeys (d : Nat) : List (Nat × Nat) := (nodesOfDom d).flatMap (fun n => (List.range 16).map (fun k => (n, k)))

-- DEDUCED (notes/assumptions/44.md)
/-- Phase 4: save the retention list of a domain; its image is then valid. -/
def Block.saveImage (b : Block) (d : Nat) : Block :=
  let im := (retained d).foldl (fun m q =>
    AMap.set 0 m (regKey q.1 q.2.1) (BitVec.ofNat 32 (b.inForce q.1 q.2.1 &&& q.2.2))) b.pm.images
  let wi := (windowKeys d).foldl (fun m q => AMap.set {} m (16 * q.1 + q.2) (AMap.get {} (b.node q.1).windows q.2)) b.pm.winImages
  { b with pm := { b.pm with images := im, winImages := wi } }.s pgPM (PM_DOMAIN_IMG_VALID d) 1

/-- Restore one retained word to its register and its live copy. -/
def Block.restoreWord (b : Block) (p off m : Nat) : Block :=
  let v := (AMap.get 0 b.pm.images (regKey p off)).toNat
  let mix (old : Word) : Word := BitVec.ofNat 32 ((old.toNat &&& (fullMask ^^^ m)) ||| (v &&& m))
  let b := b.wr p off (mix (b.rd p off))
  if (fieldsAt p off).any (fun f => shadowed f.acc) then b.wrLive p off (mix (b.rdLive p off)) else b

-- DEDUCED (notes/assumptions/44.md)
/-- Phase 10: restore a domain's image but for the registers whose image reads POISONED. -/
def Block.restoreImage (b : Block) (d : Nat) (poisoned : List (Nat × Nat)) : Block :=
  let b := ((retained d).filter (fun q => !poisoned.contains (q.1, q.2.1))).foldl (fun b q => b.restoreWord q.1 q.2.1 q.2.2) b
  let b := (windowKeys d).foldl (fun b q =>
    let x := AMap.get {} b.pm.winImages (16 * q.1 + q.2)
    b.modNode q.1 (fun y => { y with windows := AMap.set {} y.windows q.2 x })) b
  if (retained d).any (fun q => poisoned.contains (q.1, q.2.1)) then b.raise (srcPM d) clPOWER 1 d else b

/-- What the PM returns for a register word of a domain that is not ON (R407). -/
def Block.imageWord (b : Block) (d p off : Nat) : Word :=
  match (retained d).find? (fun q => q.1 == p && q.2.1 == off) with
  | some _ => AMap.get 0 b.pm.images (regKey p off)
  | none =>
    if off = 0x00C then BitVec.ofNat 32 (2 + 16 * b.domState d)
    else if off = 0x000 ∨ off = 0x004 ∨ off = 0x01C ∨ off = 0x028 then resetWord p off
    else 0

/-! ### Ports and power (R284; R393) -/

/-- The ports of a domain are held: each loop NI's, or for SD the host ports. -/
def Block.holdPorts (b : Block) (d : Nat) : Block :=
  if d < 16 then
    let b := (nisOfDom d).foldl (fun b i =>
      (b.s (pgNi i) NI_LP_STAT_HELD 1).modNi i (fun x => { x with lpApply := false, lpDiscard := 0 })) b
    b.s pgPM (PM_DOMAIN_HELD d) 1
  else if d = domSD then b.s pgPM (PM_DOMAIN_HELD d) 1
  else b

/-- A domain loses power or is reset with its logic: what it held is gone. `state`: 1 RETAIN, 2 OFF. The codes in use of the memory regions
stay with what the arrays hold (11 R351). -/
def Block.powerDown (b : Block) (d state : Nat) : Block :=
  let live := if d = domSD then (List.range 31).map (fun r => (r, b.g pgMM (MM_REGION_LIVE r))) else []
  let b := live.foldl (fun b q => b.s pgMM (MM_REGION_LIVE q.1) q.2) (b.resetDom d)
  let b := b.modDom d (fun x => { x with up := false, planRun := none, test := false, included := false })
  ((b.s pgPM (PM_DOMAIN_STATE d) state).s pgPM (PM_DOMAIN_PHASE d) 0).autoOff (railOfDom d)

end Sys2Proof.Machine
end

