-- ==== Sys2Proof/Machine/SelfTest.lean ====
section
/-! DEFINITION. Self-test, repair and ageing: plans and their records, the repair map in use, lane sparing and margin trims, with
the commands SELFTEST_END to MARGIN_TRIM (14). -/
namespace Sys2Proof.Machine

/-! ### Plans and records (R421-R429) -/

/-- Steps of a plan: 0 full, 1 short. -/
def planSteps (d plan : Nat) : Nat :=
  if d < 16 then (if plan = 0 then 196608 else 24576) else if plan = 0 then 983040 else 122880

/-- The boot ROM's number of a plan, for its signature. -/
def planIndex (d plan : Nat) : Nat := 2 * plan + b2n (decide (16 ≤ d))

def rtNOT_RUN : Nat := 0
def rtPASS : Nat := 1
def rtREPAIRED : Nat := 2
def rtFAIL : Nat := 3
def rtINCOMPLETE : Nat := 4
def rtRUNNING : Nat := 5

def testRecAddr (d : Nat) : Nat := ledgerAddr + 0x88000 + 32 * d

def testRecord (result plan reason news steps plansteps first misr stamp : Nat) : List Byte :=
  leBytes 1 result ++ leBytes 1 plan ++ leBytes 1 reason ++ leBytes 1 news ++ leBytes 4 steps ++ leBytes 4 plansteps ++
  leBytes 4 first ++ leBytes 8 misr ++ leBytes 8 stamp

-- DEDUCED (notes/assumptions/108.md)
/-- RESULT of a domain's record, as R428 takes it: a record that reads POISONED counts as not run. -/
def Sys.testResult (w : Sys) (d : Nat) : Nat × Sys :=
  match (w.blk.dom d).ramResult with
  | some r => (r, w)
  | none =>
    let x := w.read (testRecAddr d) 1
    (if x.2.1 = stPOISON then rtNOT_RUN else leNat x.1, x.2.2.2)

/-- The plan that a domain runs at a start (R428). -/
def Sys.planAtStart (w : Sys) (d : Nat) : Option Nat × Sys :=
  if 24 ≤ d then (none, w)
  else
    let r := w.testResult d
    (if r.1 = rtPASS ∨ r.1 = rtREPAIRED then none else if r.1 = rtFAIL then some 0 else some 1, r.2)

-- DESIGN CHOICE (notes/assumptions/48.md)
/-- A plan starts: its record reads RUNNING. No step has completed, so MISR is open. -/
def Sys.startPlan (w : Sys) (d plan : Nat) (atWake : Bool) : Sys :=
  let f := w.blk.fresh
  let w : Sys := { w with blk := f.2 }
  let w := w.write (testRecAddr d) (testRecord rtRUNNING plan 0 0 0 (planSteps d plan) 0xFFFFFFFF (f.1 % 2 ^ 64) w.blk.stamp)
  w.upd (fun b => b.modDom d (fun x => { x with planRun := some plan, atWake := atWake, ramResult := none }))

/-- RESULT and REASON of a plan's end (R423, R424, R425, R430). -/
def planResult (want sig steps misr news : Nat) (noSpare woken : Bool) : Nat × Nat :=
  if noSpare then (rtFAIL, 2)
  else if want < steps then (rtFAIL, 3)
  else if steps < want then (rtINCOMPLETE, if woken then 4 else 0)
  else if misr ≠ sig then (rtFAIL, 1)
  else if 0 < news then (rtREPAIRED, 0) else (rtPASS, 0)

/-- Write a plan's result; a failed read-back leaves the ledger's bytes open. -/
def Sys.endRecord (w : Sys) (d : Nat) (rec' : List Byte) (result : Nat) (readBackOk : Bool) : Sys :=
  if readBackOk then (w.write (testRecAddr d) rec').upd (fun b => b.modDom d (fun x => { x with planRun := none, ramResult := none }))
  else
    let f := w.blk.fresh
    let w : Sys := { w with blk := f.2 }
    (w.write (testRecAddr d) (leBytes 32 f.1)).upd (fun b =>
      (b.modDom d (fun x => { x with planRun := none, ramResult := some result })).raise (srcPM d) clLEDGER 1 d)

-- DESIGN CHOICE (notes/assumptions/48.md)
/-- A run was cut short by its rail or by a fabric reset (R430): INCOMPLETE, POWER. How far it had come is open. -/
def Sys.cutRecord (w : Sys) (d plan : Nat) : Sys :=
  let f := w.blk.fresh
  let g := f.2.fresh
  let n := planSteps d plan
  ({ w with blk := g.2 } : Sys).endRecord d
    (testRecord rtINCOMPLETE plan 5 0 (f.1 % n) n 0xFFFFFFFF (g.1 % 2 ^ 64) g.2.stamp) rtINCOMPLETE true

/-! ### The repair map in use (R433, R435) -/

/-- Both ends of the lane that a LANE entry names one end of: node and NODE_LANE_MAP index (03 R90). -/
def laneEnds (n i : Nat) : List (Nat × Nat) :=
  (n, i) :: (match neighbour n (i % 4) with
    | some m => [(m, if i < 4 then 4 + opposite i else opposite (i - 4))]
    | none => [])

/-- The domain in which an entry of KIND `kind` for UNIT `unit` repairs something. -/
def repairDom (kind unit : Nat) : Nat :=
  if kind = 1 ∨ kind = 4 then domOfNode unit
  else if unit < 8 then 16 + unit
  else if 14 ≤ unit ∧ unit < 30 then unit - 14 else domAO

/-- Apply one entry of the repair map to the domains that `ok` holds of. -/
def Block.applyRepair (b : Block) (ok : Nat → Bool) (e : Nat) : Block :=
  let unit := bitsOf e 8 7
  let sub := bitsOf e 16 8
  let wh := bitsOf e 24 8
  let spare := bitsOf e 32 5
  let kind := bitsOf e 0 4
  if kind = 1 then
    ((laneEnds unit (sub % 8)).filter (fun q => ok (domOfNode q.1))).foldl (fun b q =>
      let b := b.s (pgNode q.1) (NODE_LANE_MAP q.2 (spare % 4)) wh
      b.wrLive (pgNode q.1) (0x100 + 4 * q.2) (b.rd (pgNode q.1) (0x100 + 4 * q.2))) b
  else if ok (repairDom kind unit) = false then b
  else if kind = 2 then
    let rows := b.mm.rows.filter (fun q => !(q.1 == unit && q.2.1 == sub && (q.2.2.2 == spare || q.2.2.1 == wh)))
    { b with mm := { b.mm with rows := rows ++ [(unit, sub, wh, spare)] } }
  else if kind = 3 ∨ kind = 4 then
    let cols := b.mm.cols.filter (fun q => !(q.1 == kind && q.2.1 == unit && q.2.2.1 == sub && (q.2.2.2.2 == spare || q.2.2.2.1 == wh)))
    { b with mm := { b.mm with cols := cols ++ [(kind, unit, sub, wh, spare)] } }
  else b

-- DEDUCED (notes/assumptions/108.md)
/-- Entry `j` of the ledger's repair map; one that reads POISONED says nothing. -/
def Sys.mapEntry (w : Sys) (j : Nat) : Nat × Sys :=
  let x := w.read (repairMapAddr + 8 * j) 8
  (if x.2.1 = stPOISON then 0 else leNat x.1, x.2.2.2)

/-- `n` entries from entry `j` on, in order. -/
def Sys.repairMap (w : Sys) (j : Nat) : Nat → List Nat × Sys
  | 0 => ([], w)
  | n + 1 =>
    let e := w.mapEntry j
    let r := e.2.repairMap (j + 1) n
    (e.1 :: r.1, r.2)

/-- Apply the map to the domains that `ok` holds of, after dropping the rows that those domains had in use. -/
def Sys.applyRepairs (w : Sys) (ok : Nat → Bool) : Sys :=
  let es := w.repairMap 0 (w.blk.g pgLG LG_REPAIR_ENTRIES)
  es.2.upd (fun b =>
    let b := { b with mm := { b.mm with rows := b.mm.rows.filter (fun q => !ok (repairDom 2 q.1)),
                                                cols := b.mm.cols.filter (fun q => !ok (repairDom q.1 q.2.1)) } }
    es.1.foldl (fun b e => b.applyRepair ok e) b)

/-! ### Repair during a plan (R425, R431) -/

/-- The lowest spare column of a sub-array, or spare row of an input buffer, that `used` does not hold. -/
def Block.freeOf (b : Block) (kind unit sub n : Nat) : Option Nat :=
  (List.range n).find? (fun s => !b.mm.cols.any (fun q => q.1 == kind && q.2.1 == unit && q.2.2.1 == sub && q.2.2.2.2 == s))

/-- Spare columns of a sub-array: 4, and the check columns that the region's code leaves unused (11 R331). -/
def Block.spareCols (b : Block) (r : Nat) : Nat := 4 + (17 - codeBits (b.liveCode r))

/-- The entry that repairs a defect, with KIND and SPARE; none where no spare is left. A row takes a spare row, and where none is left
and it is faulty in one column, a spare column. -/
def Block.allocate (b : Block) (x : Defect) : Option Nat :=
  let entry (kind wh s : Nat) : Nat := repairEntry kind 1 x.unit x.sub wh s
  let column (wh : Nat) : Option Nat := (b.freeOf 3 x.unit x.sub (b.spareCols x.unit)).map (entry 3 wh)
  if x.kind = 1 then
    ((List.range 4).find? (fun s => decide (144 ≤ b.g (pgNode x.unit) (NODE_LANE_MAP x.sub s)))).map (entry 1 x.wh)
  else if x.kind = 2 then
    match b.freeSpare x.unit x.sub with
    | some s => some (entry 2 x.wh s)
    | none => x.col.bind column
  else if x.kind = 3 then column x.wh
  else (b.freeOf 4 x.unit x.sub 1).map (entry 4 x.wh)

/-- Repair the defects in turn, each in the repair map before the result is written. The answer: how many were, and whether a spare was
wanting for one. -/
def Sys.repairDefects (w : Sys) : List Defect → Nat × Bool × Sys
  | [] => (0, false, w)
  | x :: xs =>
    match w.blk.allocate x with
    | none => let r := w.repairDefects xs; (r.1, true, r.2.2)
    | some e =>
      let r := ((w.upd (fun b => b.applyRepair (fun _ => true) e)).appendRepair e).repairDefects xs
      (r.1 + 1, r.2.1, r.2.2)

/-! ### Trims (R442, R443) -/

/-- Re-trim path `k` (0-6 a port, 8 the core) of node `n`. The least trim that meets the slack is the silicon's; the steward then computes
the speeds anew. -/
def Block.retrimPath (b : Block) (n k : Nat) : Block :=
  let f := b.fresh
  let f := (f.1, { f.2 with stw := { f.2.stw with floorDue := true } })
  ((f.2.s (pgNode n) (NODE_MARGIN_PORT_TRIM k) f.1).s (pgNode n) (NODE_MARGIN_PORT_WARN k) 0).s
    (pgNode n) (NODE_MARGIN_PORT_EXHAUSTED k) 0

def Block.retrimNode (b : Block) (n : Nat) : Block :=
  ((List.range 7).filter (portExists n)).foldl (fun b p => b.retrimPath n p) b

/-- Re-trim the links inside a domain. -/
def Block.retrimInside (b : Block) (d : Nat) : Block :=
  (nodesOfDom d).foldl (fun b n => ((List.range 4).filter (fun p =>
    match neighbour n p with | some m => domOfNode m == d | none => false)).foldl (fun b p => b.retrimPath n p) b) b

/-! ### SELFTEST_END (R424-R428) -/

/-- The domains that the wake of `d` wakes. -/
def Block.wakeMates (b : Block) (d : Nat) : List Nat :=
  having 25 (fun e => (b.dom e).src == (b.dom d).src && (b.dom e).group == (b.dom d).group)

-- DEDUCED (notes/assumptions/46.md)
/-- PM_WAKE_LAST when the last domain of a wake is done (13 R403): the result of the lowest domain that failed, and the most attempts. -/
def Block.recordWake (b : Block) (d : Nat) : Block :=
  let x := b.dom d
  let es := (b.wakeMates d).filter (fun e => (b.dom e).result.isSome)
  let result := ((es.map (fun e => (b.dom e).result.getD 0)).filter (· != 0)).headD 0
  let tries := es.foldl (fun t e => max t (b.g pgPM (PM_DOMAIN_ATTEMPTS e))) 0
  let b := es.foldl (fun b e => b.modDom e (fun y => { y with result := none })) b
  let b := ((b.s pgPM PM_WAKE_LAST_SOURCE x.src).s pgPM PM_WAKE_LAST_DOMAIN x.group).s pgPM PM_WAKE_LAST_RESULT result
  (b.s pgPM PM_WAKE_LAST_ATTEMPTS tries).s64 pgPM PM_WAKE_LAST_STAMP b.stamp

/-- The wake of `d` ends in this domain; with the last one it ends as a whole. -/
def Block.wakeEnds (b : Block) (d result : Nat) : Block :=
  let b := b.modDom d (fun x => { x with result := some result })
  if (b.wakeMates d).any (fun e => e != d && decide (8 ≤ b.domPhase e)) then b else b.recordWake d

/-- The wake of `d` fails with `reason` and is not tried again. -/
def Block.wakeStops (b : Block) (d reason : Nat) : Block :=
  ((b.powerDown d 2).s pgPM (PM_DOMAIN_FAIL d) reason).wakeEnds d reason

-- DEDUCED (notes/assumptions/46.md)
/-- A domain that waits for SD to wake, which it does not. -/
def Block.waitFails (b : Block) (d reason : Nat) : Block :=
  (((b.s pgPM (PM_DOMAIN_PHASE d) 0).s pgPM (PM_DOMAIN_FAIL d) reason).modDom d (fun x => { x with waitSd := false })).wakeEnds d reason

/-- A wake fails with `reason`. The failure of SD's takes the wakes that wait for SD with it (R399). -/
def Block.wakeFails (b : Block) (d reason : Nat) : Block :=
  let b := b.wakeStops d reason
  if d = domSD then (having 24 (fun e => b.domPhase e == 8 && (b.dom e).waitSd)).foldl (fun b e => b.waitFails e reason) b else b

-- DEDUCED (notes/assumptions/49.md)
/-- Are all tests of the entry request that `d` belongs to over? -/
def Block.testsOver (b : Block) (d : Nat) : Bool :=
  (List.range 24).all (fun e => !((b.dom e).test && (b.dom e).group == (b.dom d).group) ||
    (b.domPhase e == 5 && (b.dom e).planRun.isNone))

-- DEDUCED (notes/assumptions/49.md)
def Block.testedWith (b : Block) (d : Nat) : List Nat :=
  having 24 (fun e => (b.dom e).test && (b.dom e).group == (b.dom d).group && b.domPhase e == 5)

-- DEDUCED (notes/assumptions/47.md)
/-- The events of R427, or of R428 for a plan at a start. -/
def Block.testEvent (b : Block) (d result : Nat) (atWake : Bool) : Block :=
  if atWake && (result == rtFAIL || result == rtINCOMPLETE) then b.raise (srcPM d) clSELFTEST 2 d
  else if result = rtFAIL then b.raise (srcPM d) clSELFTEST 1 d
  else if result = rtPASS then b
  else b.raise (srcPM d) clSELFTEST 0 d

/-- The test controller resets the domain's logic (R426). Its ports stay held, and the links inside it are trimmed anew (R442). -/
def Block.afterTest (b : Block) (d : Nat) : Block :=
  let b := b.resetDom d
  (if b.on pgPM (PM_DOMAIN_HELD d) then b.holdPorts d else b).retrimInside d

/-- The plan of domain `d` ends: repairs first, then the record, then the event and the reset. -/
def Sys.endPlan (w : Sys) (d steps misr firstFail : Nat) (defects : List Defect) (readBackOk : Bool) (plan : Nat) : Nat × Sys :=
  let x := w.blk.dom d
  let q := w.repairDefects (defects.filter (fun e => repairDom e.kind e.unit == d))
  let want := planSteps d plan
  let r := planResult want (Config.planSignature (planIndex d plan)) steps misr q.1 q.2.1 x.latched.isSome
  let w := q.2.2.endRecord d (testRecord r.1 plan r.2 (min 255 q.1) steps want firstFail misr w.blk.stamp) r.1 readBackOk
  (r.1, w.upd (fun b => (b.testEvent d r.1 x.atWake).afterTest d))

end Sys2Proof.Machine
end

