-- ==== Sys2Proof/Machine/Ageing.lean ====
section
/-! DEFINITION. Lane sparing online and margin trims: the commands LANE_SPARE to MARGIN_TRIM (14 R436-R446). -/
namespace Sys2Proof.Machine

/-! ### LANE_SPARE, LANE_SPARE_SWITCH_RX (R437, R438) -/

/-- Replace the first request that `p` holds of. -/
def replaceReq (p : LaneReq → Bool) (r : Option LaneReq) : List LaneReq → List LaneReq
  | [] => []
  | x :: xs => if p x then (match r with | some y => y :: xs | none => xs) else x :: replaceReq p r xs

def Block.setReq (b : Block) (p : LaneReq → Bool) (r : Option LaneReq) : Block :=
  { b with stw := { b.stw with lanes := replaceReq p r b.stw.lanes } }

/-- The steward writes one spare of a lane map and PG_COMMIT. -/
def Block.writeLane (b : Block) (n i s w : Nat) : Block := (b.s (pgNode n) (NODE_LANE_MAP i s) w).nodeCommit n

/-- Steps 1 and 2: the sender drives the wire on the lowest spare of the direction that names none. -/
def Block.laneSpare (b : Block) (n q w : Nat) : Block :=
  let mine (x : LaneReq) : Bool := x.n == n && x.q == q && x.w == w && x.sent.isNone
  match b.stw.lanes.find? mine, neighbour n q with
  | some x, some m =>
    if !(b.pageUp (pgNode n) && b.pageUp (pgNode m)) then b
    else
      let p := opposite q
      match (List.range 4).find? (fun s => decide (144 ≤ b.g (pgNode m) (NODE_LANE_MAP p s))) with
      | none => (b.setReq mine none).raise (srcNode n 0) clLINK 2 q
      | some s => (b.writeLane m p s w).setReq mine (some { x with sent := some (s, b.elapsed + 1000 * 256) })
  | _, _ => b

def execLaneSpare (n p wire : Nat) (s : State) : Host.Outcome State Fault Refusal :=
  need (isNode n && decide (p < 4) && (neighbour n p).isSome) (runB (fun b => b.laneSpare n p wire) s)

/-- Steps 3 to 5: 1 µs on, the receiver reads the wire from the spare, and both ends enter the repair map. -/
def Sys.laneSwitch (w : Sys) (n q : Nat) : Sys :=
  let mine (x : LaneReq) : Bool := x.n == n && x.q == q && x.sent.isSome
  match w.blk.stw.lanes.find? mine, neighbour n q with
  | some x, some m =>
    (match x.sent with
     | some (s, t) =>
       let w := w.upd (fun b => (b.until t).setReq mine none)
       if !w.blk.pageUp (pgNode n) then w
       else
         let w := w.upd (fun b => b.writeLane n (4 + q) s x.w)
         (w.appendRepair (repairEntry 1 2 m (opposite q) x.w s)).appendRepair (repairEntry 1 2 n (4 + q) x.w s)
     | none => w)
  | _, _ => w

def execLaneSpareSwitchRx (n p : Nat) (s : State) : Host.Outcome State Fault Refusal :=
  need (isNode n && decide (p < 4) && (neighbour n p).isSome) (run (fun w => w.laneSwitch n p) s)

/-! ### LANE_WATCH_RESET (R436) -/

/-- The next whole second: every lane watch counts from 0 again. -/
def Block.laneWatchReset (b : Block) : Block :=
  let b := b.untilTime ((b.now / secUnits + 1) * secUnits)
  (having 112 (fun n => b.pageUp (pgNode n))).foldl (fun b n =>
    (List.range 4).foldl (fun b q =>
      if (neighbour n q).isSome then b.s (pgNode n) (NODE_LANE_WATCH_COUNT q) 0 else b) b) b

def execLaneWatchReset (s : State) : Host.Outcome State Fault Refusal := runB Block.laneWatchReset s

/-! ### MARGIN_TRIM (R440, R441) -/

/-- The register of path `k`: NODE_MARGIN_CORE follows the ports and a gap. -/
def pathReg (k : Nat) : Nat := if k = 7 then 8 else k

-- DEDUCED (notes/assumptions/53.md)
/-- The trim of a path at its end. -/
def Block.exhausted (b : Block) (n k : Nat) : Block :=
  let r := pathReg k
  if b.on (pgNode n) (NODE_MARGIN_PORT_EXHAUSTED r) then b
  else
    let b := b.s (pgNode n) (NODE_MARGIN_PORT_EXHAUSTED r) 1
    if k = 7 then b.raise (srcNode n 2) clNODE 2 n else b.raise (srcNode n 2) clMARGIN 2 k

-- DEDUCED (notes/assumptions/53.md)
/-- One TRIM step longer; a port's warning comes when it reaches TRIM_WARN. -/
def Block.lengthen (b : Block) (n k : Nat) : Block :=
  let r := pathReg k
  let t := b.g (pgNode n) (NODE_MARGIN_PORT_TRIM r) + 1
  let b := { b.s (pgNode n) (NODE_MARGIN_PORT_TRIM r) t with stw := { b.stw with floorDue := true } }
  if t = max 1 (b.g (pgNode n) NODE_MARGIN_CFG_TRIM_WARN) then
    let b := b.s (pgNode n) (NODE_MARGIN_PORT_WARN r) 1
    if k = 7 then b else b.raise (srcNode n 2) clMARGIN 0 k
  else b

/-- A frame boundary: the monitor of path `k` has measured `slack` in 5 ps steps and `cycle` in ps. -/
def Block.marginTrim (b : Block) (n k slack cycle : Nat) : Block :=
  if b.pageUp (pgNode n) = false then b
  else
    let r := pathReg k
    let b := b.untilCell n ((b.cellNow n / (1024 * 256) + 1) * (1024 * 256))
    let b := if b.g (pgNode n) (NODE_MARGIN_PORT_CYCLE r) = min 4095 cycle then b
      else { b with stw := { b.stw with floorDue := true } }
    let b := (b.s (pgNode n) (NODE_MARGIN_PORT_SLACK r) (min 63 slack)).s (pgNode n) (NODE_MARGIN_PORT_CYCLE r) (min 4095 cycle)
    if min 63 slack < max 1 (b.g (pgNode n) NODE_MARGIN_CFG_SLACK_MIN) then
      (if b.g (pgNode n) (NODE_MARGIN_PORT_TRIM r) < 63 then b.lengthen n k else b.exhausted n k)
    else b

def execMarginTrim (n path slack cycle : Nat) (s : State) : Host.Outcome State Fault Refusal :=
  need (isNode n && hasPath n path) (runB (fun b => b.marginTrim n path slack cycle) s)

end Sys2Proof.Machine
end

