-- ==== Sys2Proof/Machine/MemoryUnit.lean ====
section
/-! DEFINITION. The memory manager's commands: SCRUB_READ to REPEAT_CLEAR (11 R337-R350, R355). -/
namespace Sys2Proof.Machine

/-! ### SCRUB_READ (R337-R339) -/

/-- Does the engine of region `r` run: its domain is ON and no self-test has it (R339; 14 R430), or it takes VAO? -/
def Block.regionOn (b : Block) (r : Nat) : Bool :=
  let d := if r < 8 then 16 + r else domSD
  decide (8 ≤ r) && decide (r < 11) || (b.domState d == 0 && (b.dom d).up && !(b.dom d).test && (b.dom d).planRun.isNone)

/-- The interval of engine `r` in 1/256 ns (R356). -/
def Block.scrubEvery (b : Block) (r : Nat) : Nat := min 1000000 (b.g pgMM (MM_SCRUB_RATE_INTERVAL r)) * 1000 * 256

-- DEDUCED (notes/assumptions/98.md)
/-- Engine `r` reads its next word, in which the bits `errs` have newly gone wrong, one interval after its last read. -/
def Sys.scrubRead (w : Sys) (r : Nat) (errs : List Nat) : Sys :=
  if !w.blk.regionOn r || w.blk.g pgMM (MM_SCRUB_RATE_INTERVAL r) == 0 then w
  else
    let w := w.upd (fun b =>
      let b := b.until (AMap.get 0 b.mm.scrubAt r + b.scrubEvery r)
      { b with mm := { b.mm with scrubAt := AMap.set 0 b.mm.scrubAt r b.elapsed } })
    let i := w.blk.g pgMM (MM_SCRUB_POS_WORD r)
    let a := regionBase r + 16 * i
    let f := w.mem.flagsAt (a / 16)
    let w := if f.valid then
        let new := (errs.filter (· < 145)).eraseDups
        let flips := f.flips.filter (fun p => !new.contains p) ++ new.filter (fun p => !f.flips.contains p)
        ((w.setFlags a { f with flips := flips }).readWord a).2.2
      else w
    w.upd (fun b =>
      if i + 1 < regionSize r / 16 then b.s pgMM (MM_SCRUB_POS_WORD r) (i + 1)
      else (b.s pgMM (MM_SCRUB_POS_WORD r) 0).wrapInc pgMM (MM_SCRUB_POS_PASSES r))

def execScrubRead (r : Nat) (errs : List Nat) (s : State) : Host.Outcome State Fault Refusal :=
  need (decide (r < 12)) (run (fun w => w.scrubRead r errs) s)

/-! ### CORRECTION_WRITE_BACK (R340) -/

def Sys.writeBack (w : Sys) (a : Nat) : Sys :=
  if w.blk.mm.backs.contains a then
    (w.setFlags a { w.mem.flagsAt (a / 16) with flips := [] }).upd (fun b =>
      { b with mm := { b.mm with backs := b.mm.backs.filter (· != a) } })
  else w

def execCorrectionWriteBack (addr : Nat) (s : State) : Host.Outcome State Fault Refusal :=
  run (fun w => w.writeBack addr) s

/-! ### BANK_WIPE and BANK_WIPE_COMPLETE (R350, R347) -/

/-- Does a slot in OPEN, VOTING or ARMING name a frond with a segment in bank k? -/
def Block.frondInUse (b : Block) (k : Nat) : Bool :=
  (List.range 4).any (fun j =>
    decide (1 ≤ b.slotState j) && decide (b.slotState j ≤ 3) && !(b.slot j).mode && bit (b.slot j).mask k)

-- DEDUCED (notes/assumptions/18.md)
/-- A write of `v` to MM_WIPE. -/
def Block.bankWipe (b : Block) (v : Word) : Block :=
  let n := v.toNat
  let k := bitsOf n 0 5
  let b := b.s pgMM MM_WIPE_REGION k
  let b := if bit n 10 then b.s pgMM MM_WIPE_REFUSED 0 else b
  if !bit n 8 then b
  else if 8 ≤ k ∨ b.streamsOf k ≠ [] ∨ b.on (pgFs k) FS_STATUS_SEAL_BUSY = true ∨ b.frondInUse k = true then
    b.s pgMM MM_WIPE_REFUSED 1
  else { (b.s pgMM MM_WIPE_REFUSED 0).s pgMM MM_WIPE_BUSY 1 with mm := { b.mm with wiping := b.mm.wiping ++ [k] } }

def execBankWipe (w : Word) (s : State) : Host.Outcome State Fault Refusal := runB (fun b => b.bankWipe w) s

def Sys.bankWipeComplete (w : Sys) : Sys :=
  match w.blk.mm.wiping with
  | [] => w
  | k :: rest =>
    (w.wipeRegion k).upd (fun b =>
      { b.s pgMM MM_WIPE_BUSY (b2n (rest != [])) with mm := { b.mm with wiping := rest } })

def execBankWipeComplete (s : State) : Host.Outcome State Fault Refusal := run Sys.bankWipeComplete s

/-! ### REPEAT_CLEAR (R355) -/

def Block.repeatClear (b : Block) : Block := { b with mm := { b.mm with repeats := [] } }

def execRepeatClear (s : State) : Host.Outcome State Fault Refusal := runB Block.repeatClear s

end Sys2Proof.Machine
end

