-- ==== Sys2Proof/Machine/Power.lean ====
section
/-! DEFINITION. The power manager: entries, wakes and rails, with the commands DOMAIN_ENTRY to SMBALERT (13), and SELFTEST_END
(14 R424-R428). -/
namespace Sys2Proof.Machine

def oneMs : Nat := 1000000 * 256
def us100 : Nat := 100000 * 256

/-! ### PM_REQ (R393-R397, R401, R414) -/

def rfTRANSIT : Nat := 1
def rfAO : Nat := 2
def rfORDER : Nat := 3
def rfFROM_OFF : Nat := 4
def rfTEST_STATE : Nat := 5
def rfSTRAND : Nat := 6
def rfEPOCH : Nat := 7

-- DEDUCED (notes/assumptions/84.md)
/-- A request that names `ds` is refused. The event comes from the lowest domain named. -/
def Block.pmRefuse (b : Block) (code : Nat) (ds : List Nat) : Block :=
  ((b.s pgPM PM_STATUS_REFUSE code).s pgPM PM_STATUS_REQ_REFUSED 1).raise (srcPM (ds.headD domAO)) clPOWER 0 (ds.headD domAO)

def Block.inTransit (b : Block) (d : Nat) : Bool :=
  b.domPhase d != 0 || b.on pgPM (PM_DOMAIN_WAKE_LATCHED d)

-- DEDUCED (notes/assumptions/57.md)
/-- The first reason of R414 that refuses a request; 0 none. -/
def Block.pmCheck (b : Block) (ds : List Nat) (target : Nat) (test : Bool) : Nat :=
  if ds.any (fun d => b.inTransit d) then rfTRANSIT
  else if ds.contains domAO then rfAO
  else if target ≠ 0 ∧ ds.contains domSD = true ∧ b.domState domSD = 0 ∧ ¬(b.devState = 2 ∧ b.allSlotsIdle = true) then rfORDER
  else if target = 3 ∨ (target = 1 ∧ ds.any (fun d => b.domState d == 2) = true) then rfFROM_OFF
  else if test = true ∧ target ≠ 0 ∧ (target = 1 ∨ ds.contains domSD = true) then rfTEST_STATE
  else 0

/-- An ON domain starts its way to `target`. -/
def Block.startEntry (b : Block) (group target : Nat) (test : Bool) (d : Nat) : Block :=
  (b.s pgPM (PM_DOMAIN_PHASE d) 1).modDom d (fun x => { x with target := target, test := test, group := group, since := b.elapsed })

/-- The named domains leave service. A RETAIN domain goes to OFF at once; SD has no epoch change. -/
def Block.enter (b : Block) (ds : List Nat) (target : Nat) (test : Bool) : Block :=
  let on := ds.filter (fun d => b.domState d == 0)
  let cold := ds.filter (fun d => target == 2 && b.domState d == 1)
  let b := cold.foldl (fun b d => (b.s pgPM (PM_DOMAIN_STATE d) 2).autoOff (railOfDom d)) b
  let b := on.foldl (fun b d => b.startEntry (on.headD 0) target (test && target == 2) d) b
  let rest := on.filter (fun d => d != domSD)
  if rest = [] then b else b.askChange (.entry rest (test && target == 2))

-- DEDUCED (notes/assumptions/57.md, notes/assumptions/84.md)
/-- A write of `v` to PM_REQ, through the service port or over the fabric. -/
def Block.pmRequest (b : Block) (v : Word) (service : Bool) : Block :=
  let n := v.toNat
  let ds := having 26 (fun d => bit n d)
  let target := bitsOf n 26 2
  let test := bit n 28
  let b := ((b.s pgPM PM_REQ_DOMAINS (bitsOf n 0 26)).s pgPM PM_REQ_TARGET target).s pgPM PM_REQ_TEST (b2n test)
  if bit n 29 = false ∨ ds = [] then b
  else
    let code := b.pmCheck ds target test
    if code ≠ 0 then b.pmRefuse code ds
    else
      let b := b.s pgPM PM_STATUS_REFUSE 0
      if target = 0 then b.wakeFrom ds (if service then wSERVICE else wHOST) else b.enter ds target test

def execDomainEntry (w : Word) (s : State) : Host.Outcome State Fault Refusal := runB (fun b => b.pmRequest w false) s
def execDomainEntryTest (w : Word) (s : State) : Host.Outcome State Fault Refusal := runB (fun b => b.pmRequest w false) s
def execSdEntry (w : Word) (s : State) : Host.Outcome State Fault Refusal := runB (fun b => b.pmRequest w false) s
def execDomainWake (w : Word) (service : Bool) (s : State) : Host.Outcome State Fault Refusal :=
  runB (fun b => b.pmRequest w service) s

/-! ### ENTRY_CONTINUE, SD_DRAIN_TIMEOUT (R393, R395, R397, R402) -/

/-- A wake that was latched during the entry replays with its source. -/
def Block.replayWake (b : Block) (d : Nat) : Block :=
  match (b.dom d).latched with
  | none => b
  | some (src, group) =>
    let b := (b.s pgPM (PM_DOMAIN_WAKE_LATCHED d) 0).modDom d (fun y => { y with latched := none })
    let b := if d ≠ domSD ∧ b.domState domSD ≠ 0 then b.wakeDom domSD src group else b
    b.wakeDom d src group

-- DEDUCED (notes/assumptions/46.md)
/-- Phases 6 and 7: the domain clamps and switches. A latched wake then replays with its source. -/
def Block.switchOff (b : Block) (d : Nat) : Block := (b.powerDown d (b.dom d).target).replayWake d

/-- SD waits in phase 1 (R394). -/
def Block.sdWaits (b : Block) : Bool := b.domPhase domSD == 1 && (b.safe || b.stw.change.isSome || !b.allSlotsIdle)

/-- The spine holds no flit of either epoch. -/
def Block.spineDrained (b : Block) : Bool :=
  (nodesOfDom domSD).all (fun n => !b.nodeHolds n 0 && !b.nodeHolds n 1)

/-- Phases 3 and 4: hold the ports, save the image, collect the wear counters. -/
def Sys.holdAndSave (w : Sys) (d : Nat) : Sys :=
  let w := w.upd (fun b => (b.holdPorts d).saveImage d)
  if d < 16 then w.collectWear [d] else w

/-- Domain `d` goes on from its drain: hold, save, then the test, or clamp and switch. -/
def Sys.entryContinue (w : Sys) (d : Nat) : Sys :=
  let b := w.blk
  if b.domPhase d = 3 then
    let w := w.holdAndSave d
    if (b.dom d).test then (w.upd (fun b => b.s pgPM (PM_DOMAIN_PHASE d) 5)).startPlan d 0 false
    else w.upd (fun b => b.switchOff d)
  else if b.domPhase d = 6 then w.upd (fun b => b.switchOff d)
  else if d = domSD ∧ (b.domPhase d = 1 ∨ b.domPhase d = 2) then
    if b.sdWaits then w
    else if b.spineDrained then (w.holdAndSave d).upd (fun b => b.switchOff d)
    else if b.domPhase d = 1 then w.upd (fun b => (b.s pgPM (PM_DOMAIN_PHASE d) 2).modDom d (fun x => { x with since := b.elapsed }))
    else w
  else w

def execEntryContinue (d : Nat) (s : State) : Host.Outcome State Fault Refusal :=
  need (decide (d < 25)) (run (fun w => w.entryContinue d) s)

/-- A node that still holds flits 1 ms on raises NODE at L2, and the steward flushes both epochs in it. -/
def Block.flushHeld (b : Block) (n : Nat) : Block :=
  ((b.raise (srcNode n 1) clNODE 2 n).flushNode n 0).flushNode n 1

def Block.sdDrainTimeout (b : Block) : Block :=
  if (b.domPhase domSD = 1 ∨ b.domPhase domSD = 2) ∧ b.sdWaits = false then
    let b := b.until ((b.dom domSD).since + oneMs)
    ((nodesOfDom domSD).filter (fun n => b.nodeHolds n 0 || b.nodeHolds n 1)).foldl (fun b n => b.flushHeld n)
      (b.s pgPM (PM_DOMAIN_PHASE domSD) 2)
  else b

def execSdDrainTimeout (s : State) : Host.Outcome State Fault Refusal := runB Block.sdDrainTimeout s

/-! ### WAKE_POWER_GOOD (R398, R428, R435; 11 R346) -/

/-- Wipe the arrays of a domain that comes from OFF: a bank, or the steward's SRAM. An LD domain's sori and node
buffers are empty already; the pending code of its sori comes into use (11 R347). -/
def Sys.wipeArrays (w : Sys) (d : Nat) : Sys :=
  if d < 16 then w.wipeRegion (14 + d)
  else if d < 24 then w.wipeRegion (d - 16)
  else if d = domSD then (w.wipeRegion 11).wipeRegion 12
  else w

/-- Phase 10: repairs in place, arrays wiped, the image restored, the ports held as before; then phase 11. -/
def Sys.restore (w : Sys) (d : Nat) (fromOff : Bool) (poisoned : List (Nat × Nat)) : Sys :=
  let w := w.applyRepairs (fun e => e == d)
  let w := if fromOff then w.wipeArrays d else w
  w.upd (fun b =>
    let b := if b.on pgPM (PM_DOMAIN_IMG_VALID d) then b.restoreImage d poisoned else b.resetActive d
    let b := if b.on pgPM (PM_DOMAIN_HELD d) then b.holdPorts d else b
    b.s pgPM (PM_DOMAIN_PHASE d) 11)

/-- The domain's internal power-good rises in phase 9. A test at start comes before the restore. -/
def Sys.wakePowerGood (w : Sys) (d : Nat) (poisoned : List (Nat × Nat)) : Sys :=
  if w.blk.domPhase d = 9 ∧ (w.blk.dom d).up = false ∧ (w.blk.dom d).retry = false then
    let fromOff := w.blk.domState d == 2
    let w := w.upd (fun b => (b.modDom d (fun x => { x with up := true, fromOff := fromOff })).s pgPM (PM_DOMAIN_STATE d) 0)
    let q := w.planAtStart d
    match q.1 with
    | some p => q.2.startPlan d p true
    | none => q.2.restore d fromOff poisoned
  else w

def execWakePowerGood (d : Nat) (poisoned : List (Nat × Nat)) (s : State) : Host.Outcome State Fault Refusal :=
  need (decide (d < 25)) (run (fun w => w.wakePowerGood d poisoned) s)

/-! ### SELFTEST_END (14 R424-R428) -/

/-- The plan at a start has ended: go on with the restore, or OFF. Before fabric ready the crozier goes on by itself. -/
def Sys.startTested (w : Sys) (d result : Nat) : Sys :=
  if result = rtPASS ∨ result = rtREPAIRED then
    (if w.blk.domPhase d = 9 then w.restore d (w.blk.dom d).fromOff []
     else (w.applyRepairs (fun e => e == d)).upd (fun b =>
       { b with stw := { b.stw with testing := b.stw.testing.filter (· != d) } }))
  else if w.blk.domPhase d = 9 then w.upd (fun b => b.wakeFails d 4)
  else w.upd (fun b => ({ b with stw := { b.stw with testing := b.stw.testing.filter (· != d) } }.powerDown d 2).s
    pgPM (PM_DOMAIN_FAIL d) 4)

/-- The last test of an entry request ends: the steward marks the tested domains OFF (R395). -/
def Block.entryTested (b : Block) (d : Nat) : Block :=
  if b.testsOver d then b.askChange (.tested (b.testedWith d)) else b

def Sys.selftestEnd (w : Sys) (d steps misr firstFail : Nat) (defects : List Defect) (readBackOk : Bool) : Sys :=
  match (w.blk.dom d).planRun with
  | none => w
  | some plan =>
    let r := w.endPlan d steps misr firstFail defects readBackOk plan
    if (w.blk.dom d).atWake then r.2.startTested d r.1 else r.2.upd (fun b => b.entryTested d)

/-! ### WAKE_TIMEOUT, WAKE_RETRY (R404) -/

-- DEDUCED (notes/assumptions/46.md)
/-- The attempt has failed: the switches open, and a rail turned on for this wake goes off again. -/
def Block.attemptFails (b : Block) (d : Nat) : Block :=
  let r := railOfDom d
  let b := if (b.dom d).railOn ∧ b.railState r ≠ railOFF then
      let b := (b.pmbus r 0x03 0).pmbus r 0x01 0x00
      b.s pgPM (PM_RAIL_STATUS_STATE r) railOFF
    else b
  b.modDom d (fun x => { x with railOn := false, up := false })

def Block.wakeTimeout (b : Block) (d reason : Nat) : Block :=
  let x := b.dom d
  if (b.domPhase d = 8 ∨ b.domPhase d = 9) ∧ x.up = false ∧ x.retry = false ∧ x.waitSd = false then
    let b := if reason = 1 ∨ reason = 4 then b.until (x.since + 2 * oneMs) else b
    let b := b.attemptFails d
    if b.g pgPM (PM_DOMAIN_ATTEMPTS d) < 3 then
      (b.s pgPM (PM_DOMAIN_PHASE d) 8).modDom d (fun x => { x with retry := true, since := b.elapsed })
    else (b.wakeFails d reason).raise (srcPM d) clPOWER 2 d
  else b

def execWakeTimeout (d reason : Nat) (s : State) : Host.Outcome State Fault Refusal :=
  need (decide (d < 25) && decide (1 ≤ reason) && decide (reason ≤ 4)) (runB (fun b => b.wakeTimeout d reason) s)

def Block.wakeRetry (b : Block) (d : Nat) : Block :=
  let x := b.dom d
  if x.retry then
    ((b.until (x.since + us100)).s pgPM (PM_DOMAIN_ATTEMPTS d) (b.g pgPM (PM_DOMAIN_ATTEMPTS d) + 1)).wakeAttempt d
  else b

def execWakeRetry (d : Nat) (s : State) : Host.Outcome State Fault Refusal :=
  need (decide (d < 25)) (runB (fun b => b.wakeRetry d) s)

/-! ### WAKE_PIN, WAKE_TIMER_FIRE (R401, R417) -/

/-- An edge of WAKE[k]. While a reset pin is low it is ignored (19 R542). -/
def Block.wakePin (b : Block) (k : Nat) : Block :=
  if b.pins.porst && b.pins.frst then b.wakeFrom (b.wakeSetOf (2 + k)) (2 + k) else b

def execWakePin (k : Nat) (s : State) : Host.Outcome State Fault Refusal :=
  need (decide (k < 4)) (runB (fun b => b.wakePin k) s)

/-- Device time reaches the armed stamp. -/
def Block.wakeTimerFire (b : Block) : Block :=
  if b.on pgPM PM_WAKE_TIMER_HI_ARMED then
    let t := (b.rd pgPM PM_WAKE_TIMER).toNat + b.g pgPM PM_WAKE_TIMER_HI_T * 2 ^ 32
    let b := (b.untilTime (nsOfStamp t * 256)).s pgPM PM_WAKE_TIMER_HI_ARMED 0
    b.wakeFrom (b.wakeSetOf wTIMER) wTIMER
  else b

def execWakeTimerFire (s : State) : Host.Outcome State Fault Refusal := runB Block.wakeTimerFire s

/-! ### PORT_RELEASE (R400) -/

def Block.releasePorts (b : Block) (d : Nat) : Block :=
  let b := if d < 16 then (nisOfDom d).foldl (fun b i => b.s (pgNi i) NI_LP_STAT_HELD 0) b else b
  b.s pgPM (PM_DOMAIN_HELD d) 0

/-- A write of `v` to PM_RELEASE. -/
def Block.portRelease (b : Block) (v : Word) : Block :=
  ((List.range 16 ++ [domSD]).filter (fun d => bit v.toNat d)).foldl (fun b d =>
    if b.domState d = 0 ∧ (b.dom d).included = true then b.releasePorts d else b.s pgPM PM_STATUS_WR_REFUSED 1) b

def execPortRelease (w : Word) (s : State) : Host.Outcome State Fault Refusal := runB (fun b => b.portRelease w) s

/-! ### RAIL_PG_FALL (R406; 14 R430) -/

/-- The first domain of a rail, whose source raises the rail's events. -/
def railDom (r : Nat) : Nat := if r = 0 then 0 else if r = 1 then 8 else if r = 2 then domSD else domAO

-- DEDUCED (notes/assumptions/45.md)
/-- The steward marks a lost domain's NIs UNREACHABLE in every map in use (03 R78). -/
def Block.markLost (b : Block) (d : Nat) : Block :=
  (having 216 (fun i => b.niLive i)).foldl (fun b i =>
    ((nisOfDom d).filter (fun t => b.reach i t == rchOK)).foldl (fun b t =>
      (b.s (pgNi i) (NI_REACH_NEXT t) rchUNREACH).s (pgNi i) (NI_REACH t) rchUNREACH) b) b

-- DEDUCED (notes/assumptions/45.md)
/-- A domain is lost with its rail: a plan that runs ends INCOMPLETE by POWER, a wake ends, the domain becomes OFF. A wake whose plan
ends so reads DOMAIN_PG, as R428 says, any other RAIL_PG. -/
def Sys.loseDom (w : Sys) (d : Nat) : Sys :=
  let x := w.blk.dom d
  let w := match x.planRun with
    | some p => (w.cutRecord d p).upd (fun b => b.testEvent d rtINCOMPLETE x.atWake)
    | none => w
  let waking := decide (8 ≤ w.blk.domPhase d)
  let w := w.upd (fun b => (b.powerDown d 2).s pgPM (PM_DOMAIN_IMG_VALID d) 0)
  let why := if x.planRun.isSome then 4 else 1
  if waking then w.upd (fun b => (b.s pgPM (PM_DOMAIN_FAIL d) why).wakeEnds d why) else w

/-- Does a wake turn rail `r` on? Its failures go under R404. -/
def Block.wakesRail (b : Block) (r : Nat) : Bool :=
  (domsOfRail r).any (fun d => b.domPhase d == 8 && !(b.dom d).retry && !(b.dom d).waitSd && (b.dom d).railOn)

/-- PG falls during a change of the rail's target: the change is not confirmed (19 R542; R410). -/
def Block.changeFails (b : Block) (r : Nat) : Block :=
  if b.wakesRail r then b
  else ((b.s pgPM (PM_RAIL_STATUS_STATE r) railFAULT).modRail r (fun x => { x with since := none })).raise (srcPM (railDom r)) clPOWER 2 (railDom r)

/-- PG of rail `r` falls. -/
def Sys.railPgFall (w : Sys) (r : Nat) : Sys :=
  let w := w.upd (fun b => b.s pgPM (PM_RAIL_STATUS_PG r) 0)
  let b := w.blk
  let on := (domsOfRail r).filter (fun d => b.domState d == 0 && (b.dom d).up)
  if b.railState r = railCHANGING then w.upd (fun b => b.changeFails r)
  else if r = 3 then w.upd (fun b => b.raise (srcPM domAO) clPOWER 3 domAO)
  else if on = [] then w
  else if r = 2 then
    let loops := having 16 (fun d => b.domState d == 0 && (b.dom d).up)
    let w := loops.foldl (fun w d => (w.upd (fun b => b.holdPorts d)).loseDom d) w
    let w := (domsOfRail 2).foldl (fun w d => w.loseDom d) w
    w.upd (fun b => (loops ++ domsOfRail 2).foldl (fun b d => b.replayWake d) (b.raise (srcPM domSD) clPOWER 3 domSD))
  else
    let w := w.upd (fun b => on.foldl (fun b d => b.markLost d) b)
    let w := on.foldl (fun w d => w.loseDom d) w
    w.upd (fun b => on.foldl (fun b d => b.replayWake d) ((b.askChange .railLost).raise (srcPM (railDom r)) clPOWER 2 (railDom r)))

def execRailPgFall (r : Nat) (s : State) : Host.Outcome State Fault Refusal :=
  need (decide (r < 4)) (run (fun w => w.railPgFall r) s)

/-! ### Rail targets (R409-R411) -/

def Block.railFloor (b : Block) (r : Nat) : Nat := clamp 120 180 (b.g pgPM (PM_VFLOOR r))

-- DESIGN CHOICE (notes/assumptions/55.md)
/-- VOUT_COMMAND of `v` in 5 mV units: V · 2^(−N), rounded to nearest. Which way a tie goes is open. -/
def Block.voutCommand (b : Block) (r v : Nat) : Nat × Block :=
  let e := b.g pgPM (PM_RAIL_CFG_VOUT_EXP r)
  let num := if 16 ≤ e then v * 2 ^ (32 - e) else v
  let den := if 16 ≤ e then 200 else 200 * 2 ^ e
  if 2 * (num % den) = den then let f := b.fresh; (num / den + f.1 % 2, f.2)
  else ((2 * num + den) / (2 * den), b)

-- DEDUCED (notes/assumptions/54.md)
/-- Write VOUT_COMMAND; the change runs until it is confirmed. A rail that is off takes its target when it comes on. -/
def Block.startRail (b : Block) (r : Nat) : Block :=
  let b := b.s pgPM (PM_RAIL_STATUS_WAIT_COMMIT r) 0
  if b.railState r = railOFF ∨ (b.rail r).fixed = true then b
  else
    let q := b.voutCommand r (b.g pgPM (PM_RAIL_TARGET r))
    ((q.2.pmbus r 0x21 q.1).s pgPM (PM_RAIL_STATUS_STATE r) railCHANGING).modRail r (fun x => { x with since := some b.elapsed })

-- DEDUCED (notes/assumptions/54.md)
/-- A request of `v` for rail `r`. -/
def Block.railRequest (b : Block) (r v : Nat) : Block :=
  let old := b.g pgPM (PM_RAIL_TARGET r)
  if v = old then b
  else if v < b.railFloor r ∨ 180 < v then
    (b.s pgPM (PM_RAIL_STATUS_REFUSED r) 1).raise (srcPM (railDom r)) clPOWER 0 (railDom r)
  else
    let b := b.s pgPM (PM_RAIL_TARGET r) v
    if old < v ∨ b.allSlotsIdle = true then b.startRail r else b.s pgPM (PM_RAIL_STATUS_WAIT_COMMIT r) 1

/-- A write of `v` to PM_RAIL_TARGET. -/
def Block.railTargets (b : Block) (v : Word) : Block :=
  (List.range 4).foldl (fun b r => b.railRequest r (bitsOf v.toNat (8 * r) 8)) b

def execRailTargetRequest (w : Word) (s : State) : Host.Outcome State Fault Refusal := runB (fun b => b.railTargets w) s

def Block.railFallResume (b : Block) (r : Nat) : Block :=
  if b.on pgPM (PM_RAIL_STATUS_WAIT_COMMIT r) = true ∧ b.allSlotsIdle = true then b.startRail r else b

def execRailFallResume (r : Nat) (s : State) : Host.Outcome State Fault Refusal :=
  need (decide (r < 4)) (runB (fun b => b.railFallResume r) s)

/-- Bits 15, 14, 13, 11 and 6-1 of STATUS_WORD. -/
def statusFaults (sw : Nat) : Bool := (sw &&& 0xE87E) != 0

/-- Domains whose wake waits in phase 8 for rail `r`. -/
def Block.waitRail (b : Block) (r : Nat) : List Nat :=
  (domsOfRail r).filter (fun d => b.domPhase d == 8 && !(b.dom d).retry && !(b.dom d).waitSd)

/-- The PM reads STATUS_WORD, and READ_VOUT where the change is confirmed. -/
def Block.railConfirm (b : Block) (r sw vout : Nat) : Block :=
  if b.railState r = railCHANGING then
    let b := b.s pgPM (PM_RAIL_STATUS_STATUS_WORD r) sw
    if b.on pgPM (PM_RAIL_STATUS_PG r) = false ∨ statusFaults (sw % 2 ^ 16) = true then b
    else
      let b := (b.s pgPM (PM_RAIL_STATUS_APPLIED r) (b.g pgPM (PM_RAIL_TARGET r))).s pgPM (PM_RAIL_STATUS_STATE r) railIDLE
      let b := b.modRail r (fun x => { x with since := none, vout := vout })
      (b.waitRail r).foldl (fun b d => b.s pgPM (PM_DOMAIN_PHASE d) 9) b
  else b

def execRailConfirm (r statusWord readVout : Nat) (s : State) : Host.Outcome State Fault Refusal :=
  need (decide (r < 4)) (runB (fun b => b.railConfirm r statusWord readVout) s)

/-- A change of a rail's target is not confirmed within 2 ms. A rail turned on by a wake fails under R404 instead. -/
def Block.railConfirmTimeout (b : Block) (r sw : Nat) : Block :=
  match decide (b.railState r = railCHANGING) && !b.wakesRail r, (b.rail r).since with
  | true, some t =>
    let b := (b.until (t + 2 * oneMs)).modRail r (fun x => { x with since := none })
    ((b.s pgPM (PM_RAIL_STATUS_STATUS_WORD r) sw).s pgPM (PM_RAIL_STATUS_STATE r) railFAULT).raise
      (srcPM (railDom r)) clPOWER 2 (railDom r)
  | _, _ => b

def execRailConfirmTimeout (r statusWord : Nat) (s : State) : Host.Outcome State Fault Refusal :=
  need (decide (r < 4)) (runB (fun b => b.railConfirmTimeout r statusWord) s)

/-- Does a slot table in force anywhere select a profile other than 0 and 2? -/
def Block.sharesTC (b : Block) : Bool :=
  (List.range 112).any (fun n => b.pageUp (pgNode n) && (List.range 7).any (fun p => portExists n p &&
    (List.range 64).any (fun t => b.gl (pgNode n) (NODE_SLOT_ENTRY p t) % 2 == 1)))

-- DESIGN CHOICE (notes/assumptions/5.md)
/-- The steward writes the speeds that it has measured into CSQ_BUDGET. SHARE is 256 where no slot table puts TC first (06 R173, R206). -/
def Block.writeBudgets (b : Block) : Block :=
  let put (b : Block) (f : Fld) : Block := let x := b.fresh; x.2.s pgCSQ f (x.1 % 2 ^ f.w)
  let b := [CSQ_BUDGET0_TF, CSQ_BUDGET1_PATH, CSQ_BUDGET1_FIXED, CSQ_BUDGET2_CHK].foldl put b
  if b.sharesTC then (let x := b.fresh; x.2.s pgCSQ CSQ_BUDGET0_SHARE (1 + x.1 % 256)) else b.s pgCSQ CSQ_BUDGET0_SHARE 256

-- DESIGN CHOICE (notes/assumptions/5.md)
/-- The steward has computed PM_VFLOOR, and with it the budgets of commits (04 R112; 06 R206). A rail below its new floor is raised to it. -/
def Block.writeVfloor (b : Block) (v : Word) : Block :=
  let b := if (b.dom domSD).up then b.writeBudgets else b
  let b := { b.wr pgPM 0x074 v with stw := { b.stw with floorDue := false } }
  (List.range 4).foldl (fun b r =>
    if b.g pgPM (PM_RAIL_TARGET r) < b.railFloor r then
      ((b.s pgPM (PM_RAIL_TARGET r) (b.railFloor r)).startRail r).raise (srcPM (railDom r)) clPOWER 0 (railDom r)
    else b) b

def execVfloorWrite (w : Word) (s : State) : Host.Outcome State Fault Refusal := runB (fun b => b.writeVfloor w) s

/-- SMBALERT_N low: each rail that answers gives its STATUS_WORD (R412). -/
def Block.smbalert (b : Block) (answers : List (Nat × Nat)) : Block :=
  (answers.filter (fun q => q.1 < 4)).foldl (fun b q =>
    let b := b.s pgPM (PM_RAIL_STATUS_STATUS_WORD q.1) q.2
    if statusFaults (q.2 % 2 ^ 16) then b.raise (srcPM (railDom q.1)) clPOWER 1 (railDom q.1) else b) b

def execSmbalert (answers : List (Nat × Nat)) (s : State) : Host.Outcome State Fault Refusal :=
  runB (fun b => b.smbalert answers) s

end Sys2Proof.Machine
end

