-- ==== Sys2Proof/Machine/Epochs.lean ====
section
/-! DEFINITION. Epoch changes: the commands EPOCH_CHANGE_START to ROUTE_TABLE_AUDIT (03 R64-R73, R545, R548). -/
namespace Sys2Proof.Machine

/-! ### The mailbox's completion (16 R491, R494) -/

def mbOK : Nat := 0
def mbUNKNOWN : Nat := 1
def mbARG : Nat := 2
def mbGROUP : Nat := 3
def mbSTATE : Nat := 4
def mbSTRAND : Nat := 5
def mbSAFE : Nat := 6
def mbHOST : Nat := 7
def mbCRC : Nat := 8
def mbLEDGER : Nat := 9
def mbKEYGEN : Nat := 10
def mbEPOCH : Nat := 11

/-- The command that runs ends with `result` and the results `rs` (argument number and value). -/
def Block.mboxDone (b : Block) (result : Nat) (rs : List (Nat × Nat)) : Block :=
  match b.stw.mbox with
  | none => b
  | some w =>
    let b := rs.foldl (fun b q => b.wr pgSTW (STW_MBOX_ARG q.1) (BitVec.ofNat 32 q.2)) b
    let b := (b.s pgSTW STW_MBOX_STATUS_RESULT result).s pgSTW STW_MBOX_STATUS_CMD (bitsOf w.toNat 0 8)
    let b := ((b.s pgSTW STW_MBOX_STATUS_BUSY 0).wrapInc pgSTW STW_MBOX_STATUS_DONE)
    let b := { b with stw := { b.stw with mbox := none } }
    if bit w.toNat 8 then
      b.present 204 (msgReq (bitsOf w.toNat 9 2)
        (leBytes 4 (b.rd pgSTW 0x048).toNat ++ [4, 5, 6].flatMap (fun j => leBytes 4 (b.rd pgSTW (STW_MBOX_ARG j)).toNat)))
    else b

/-! ### EPOCH_CHANGE_START (R64-R68) -/

def Block.epochNo (b : Block) : Nat := (b.rd pgSTW 0x070).toNat

/-- The steward serves: SD is ON and the fabric ready. -/
def Block.stwServes (b : Block) : Bool :=
  b.domState domSD == 0 && (b.dom domSD).up && b.domPhase domSD == 0 && b.on pgSTW STW_STATUS_READY

/-- What asked for the change has gone. -/
def Block.causeStale (b : Block) : Cause → Bool
  | .entry ds _ => ds.all (fun d => b.domPhase d != 1)
  | .tested ds => ds.all (fun d => b.domPhase d != 5)
  | .wake d => b.domPhase d != 11
  | _ => false

/-- A request, not a failure, that excludes something: R65 may refuse it. -/
def Cause.requested : Cause → Bool
  | .entry _ _ => true
  | .contain _ => true
  | .mailbox 5 => true
  | _ => false

/-- Give an entry's domains back. -/
def Block.entryRefused (b : Block) (ds : List Nat) (code : Nat) : Block :=
  let b := (ds.filter (fun d => b.domPhase d == 1)).foldl (fun b d =>
    let x := b.dom d
    let b := ((b.s pgPM (PM_DOMAIN_PHASE d) 0).s pgPM (PM_DOMAIN_WAKE_LATCHED d) 0)
    b.modDom d (fun _ => { x with test := false, latched := none })) b
  b.pmRefuse code ds

-- DEDUCED (notes/assumptions/50.md, notes/assumptions/86.md)
/-- The steward cannot make the change: tell its cause. -/
def Sys.changeRefused (w : Sys) (c : Cause) : Sys :=
  match c with
  | .entry ds _ => w.upd (fun b => b.entryRefused ds rfSTRAND)
  | .contain cls => w.containFails cls
  | .mailbox _ => w.upd (fun b => b.mboxDone mbSTRAND [])
  | _ => w

/-- Nodes that a failure newly leaves outside the live set: NODE at L1 from each. -/
def Block.leaveOut (b : Block) (ns : List Nat) : Block :=
  let new := ns.filter (fun n => !b.stw.stranded.contains n)
  let b := new.foldl (fun b n => b.raise (srcNode n 1) clNODE 1 n) b
  { b with stw := { b.stw with stranded := ns } }

-- DEDUCED (notes/assumptions/99.md)
/-- Steps 2 and 3: compute, and write the banks of the epoch that is not in use. -/
def Block.loadChange (b : Block) (c : Cause) : Block :=
  let join := Block.wakeJoin c
  let r := b.routesFor join
  let e := (b.epochNo + 1) % 2
  let nis := having 216 (fun i => b.niIn join r.live i)
  let leaving := b.leaving join r.live
  let b := (b.leaveOut (b.strandedNodes join r.live)).writeTables join r e
  let b := (having 216 (fun i => b.niUp i)).foldl (fun b i => b.modNi i (fun x => { x with bal := AMap.set 0 x.bal e 0 })) b
  { b.s pgSTW STW_STATUS_EPOCH_BUSY 1 with
    stw := { b.stw with change := some { cause := c, step := 4, tries := b.stw.tries, live := r.live, nis := nis, leaving := leaving },
                        tries := 0 } }

/-- Has epoch `e` drained from its last use, so that no node holds a flit of it? -/
def Block.drainedBefore (b : Block) (e : Nat) : Bool := (List.range 112).all (fun n => !b.nodeHolds n e)

/-- The tested domains are marked OFF from this change on (R395). -/
def Block.prepareCause (b : Block) : Cause → Block
  | .tested ds => ds.foldl (fun b d => b.modDom d (fun x => { x with test := false })) b
  | _ => b

/-- Step 1 and what follows at once, for the change at the head of the queue. It waits while R66, R228 or the drain of its epoch says so. -/
def Sys.tryChange (w : Sys) (c : Cause) (rest : List Cause) : Sys :=
  let pop (b : Block) : Block := { b with stw := { b.stw with queue := rest } }
  let drop (b : Block) : Block := { b with stw := { b.stw with queue := rest, tries := 0 } }
  if w.blk.causeStale c then w.upd drop
  else
    let b := w.blk.prepareCause c
    let join := Block.wakeJoin c
    let live := b.liveSet join
    let out := (b.strandedNodes join live).filter (fun n => !b.stw.stranded.contains n)
    if c.requested && !out.isEmpty then (w.upd drop).changeRefused c
    else if b.mustWait (b.leaving join live) || !b.drainedBefore ((b.epochNo + 1) % 2) then w
    else { w with blk := (pop b).loadChange c }

def Sys.epochChangeStart (w : Sys) : Sys :=
  match w.blk.stwServes && !w.blk.safe && w.blk.stw.change.isNone, w.blk.stw.queue with
  | true, c :: rest => w.tryChange c rest
  | _, _ => w

def execEpochChangeStart (s : State) : Host.Outcome State Fault Refusal := run Sys.epochChangeStart s

/-! ### EPOCH_VERIFY (R68 step 4, R548) -/

def Block.endChange (b : Block) : Block := { b.s pgSTW STW_STATUS_EPOCH_BUSY 0 with stw := { b.stw with change := none } }

/-- A failed including change ends the wake (13 R547). -/
def Block.includeFails (b : Block) (d : Nat) : Block :=
  if b.domPhase d = 11 then ((b.holdPorts d).wakeFails d 5).raise (srcPM d) clPOWER 2 d else b

-- DEDUCED (notes/assumptions/50.md)
/-- The third attempt is cancelled: tell the change's cause. -/
def Sys.changeFails (w : Sys) (c : Cause) : Sys :=
  match c with
  | .entry ds _ => w.upd (fun b => b.entryRefused ds rfEPOCH)
  | .tested ds => w.upd (fun b => b.askChange (.tested ds))
  | .wake d => w.upd (fun b => b.includeFails d)
  | .contain cls => w.containFails cls
  | .mailbox _ => w.upd (fun b => b.mboxDone mbEPOCH [])
  | .audit => w
  | .railLost => w
  | .probe => w

/-- Does some word of epoch `e` in node `n` differ from the steward's own (R68, R545)? A byte whose parity alone is wrong does not differ. -/
def Block.tableDiffers (b : Block) (n e : Nat) : Bool :=
  ((0x044 + 4 * e) :: (List.range 55).map (fun j => 0x400 + 0x100 * e + 4 * j)).any (fun o =>
    b.rd (pgNode n) o != AMap.get 0 b.stw.tables (regKey (pgNode n) o))

/-- The NIs that get a PROBE in step 4: those that the new map of NI 204 marks REACHABLE. -/
def Block.probed (b : Block) : List Nat := having 216 (fun d => d != 204 && b.g (pgNi 204) (NI_REACH_NEXT d) == rchOK)

/-- Does the PROBE of NI 204 to NI `d` or its answer find no way in epoch `e`? -/
def Block.probeLost (b : Block) (e d : Nat) : Bool :=
  !b.pathOk e d 113 (b.injectNode 204 d e) || !b.pathOk e 204 113 (b.injectNode d 204 e)

/-- The node of the first read-back that differs, or the one at which the first PROBE or answer finds no way. -/
def Block.verifyFails (b : Block) (e : Nat) : Option Nat :=
  match (having 112 (fun n => (b.dom (domOfNode n)).up && b.tableDiffers n e)) with
  | n :: _ => some n
  | [] =>
    (b.probed.find? (fun d => b.probeLost e d)).map
      (fun d => b.injectNode d 204 e)

/-- PROBEs to the NIs `ds` and their answers, as the NIs count them. -/
def Block.countProbes (b : Block) (ds : List Nat) : Block :=
  ds.foldl (fun b d =>
    (((b.cntNi 204 (cINJ cMGT)).cntNi d (cSERVED stOK)).cntNi d (cINJ cRSP)).cntNi 204 (cDONE stOK)) b

-- DEDUCED (notes/assumptions/99.md)
/-- Step 4: every word is read back and every PROBE answered, or the attempt is cancelled. `bad` names the node of a read-back or PROBE
whose answer is lost. -/
def Sys.epochVerify (w : Sys) (bad : Option Nat) : Sys :=
  match w.blk.stw.change with
  | none => w
  | some ch =>
    if ch.step ≠ 4 then w
    else match (w.blk.verifyFails ((w.blk.epochNo + 1) % 2)).or bad with
      | none => w.upd (fun b => { b.countProbes b.probed with stw := { b.stw with change := some { ch with step := 5 } } })
      | some n =>
        if ch.tries < 2 then
          (w.upd (fun b => { b.endChange with
            stw := { b.endChange.stw with queue := ch.cause :: b.stw.queue, tries := ch.tries + 1 } })).tryChange ch.cause w.blk.stw.queue
        else (w.upd (fun b => b.endChange.raise (srcNode n 1) clNODE 1 n)).changeFails ch.cause

def execEpochVerify (bad : Option Nat) (s : State) : Host.Outcome State Fault Refusal :=
  need (match bad with | some n => isNode n | none => true) (run (fun w => w.epochVerify bad) s)

/-! ### SWITCH_BROADCAST (R68 step 5) -/

-- DEDUCED (notes/assumptions/23.md)
/-- The broadcast reaches NI `i`: a live one takes the new epoch and map as one act. -/
def Block.switchNi (b : Block) (e : Nat) (live : Bool) (i : Nat) : Block :=
  if live then
    let b := (b.s (pgNi i) NI_INFO_CUR e).s (pgNi i) NI_INFO_LIVE 1
    (List.range 14).foldl (fun b j => b.wr (pgNi i) (0x100 + 4 * j) (b.rd (pgNi i) (0x140 + 4 * j))) b
  else b.s (pgNi i) NI_INFO_LIVE 0

/-- Every powered NI and node takes epoch `e`, whose live nodes and NIs step 2 has computed (R68). -/
def Block.switchEpoch (b : Block) (live nis : List Nat) (e : Nat) : Block :=
  let doms := having 26 (fun d => live.any (fun n => domOfNode n == d) || nis.any (fun i => domOfNi i == d))
  let b := (having 216 (fun i => b.niUp i)).foldl (fun b i => b.switchNi e (nis.contains i) i) b
  let b := (having 112 (fun n => (b.dom (domOfNode n)).up)).foldl (fun b n =>
    (b.s (pgNode n) NODE_EPOCH_CUR e).modNode n (fun x => { x with bcast := true })) b
  let b := doms.foldl (fun b d => b.modDom d (fun x => { x with included := true })) b
  b.demote

/-- Step 5. It waits while an active slot names an NI that leaves, or its bank streams (R66; 07 R228). -/
def Block.switchBroadcast (b : Block) : Block :=
  match b.stw.change with
  | none => b
  | some ch =>
    if ch.step ≠ 5 ∨ b.mustWait ch.leaving = true then b
    else
      let no := b.epochNo + 1
      let b := (b.switchEpoch ch.live ch.nis (no % 2)).wr pgSTW 0x070 (BitVec.ofNat 32 no)
      let b := match ch.cause with
        | .entry ds _ => (ds.filter (fun d => b.domPhase d == 1)).foldl (fun (b : Block) d => b.s pgPM (PM_DOMAIN_PHASE d) 2) b
        | _ => b
      { b with stw := { b.stw with change := some { ch with step := 6, sent := b.elapsed } } }

def execSwitchBroadcast (s : State) : Host.Outcome State Fault Refusal := runB Block.switchBroadcast s

/-! ### EPOCH_DRAINED, DRAIN_TIMEOUT (R68 steps 6 and 7, R70, R72) -/

/-- The epoch that the last switch left. -/
def Block.oldEpoch (b : Block) : Nat := (b.epochNo + 1) % 2

/-- All balances of epoch `e` less all its discards. -/
def Block.balanceSum (b : Block) (e : Nat) : Int :=
  let bal := b.nis.foldl (fun (t : Int) q => t + AMap.get 0 q.2.bal e) 0
  let disc := (List.range 112).foldl (fun t n => t + b.g (pgNode n) (NODE_DISCARD e)) 0
  bal - (disc : Int)

def Block.discardsSaturated (b : Block) (e : Nat) : Bool := (List.range 112).any (fun n => b.g (pgNode n) (NODE_DISCARD e) == 0xFFFF)

-- DEDUCED (notes/assumptions/51.md)
/-- Step 7: the caller continues. -/
def Block.completeChange (b : Block) (c : Cause) : Block :=
  let b := b.endChange
  match c with
  | .entry ds _ => (ds.filter (fun d => b.domPhase d == 2)).foldl (fun b d => b.s pgPM (PM_DOMAIN_PHASE d) 3) b
  | .tested ds => (ds.filter (fun d => b.domPhase d == 5)).foldl (fun b d => b.s pgPM (PM_DOMAIN_PHASE d) 6) b
  | .wake d => if b.domPhase d = 11 then (b.s pgPM (PM_DOMAIN_PHASE d) 0).wakeEnds d 0 else b
  | .mailbox cmd => b.mboxDone mbOK (if cmd = 5 then [] else [(4, b.epochNo)])
  | .contain _ => b
  | .audit => b
  | .railLost => b
  | .probe => b

def Block.epochDrained (b : Block) : Block :=
  match b.stw.change with
  | none => b
  | some ch =>
    if ch.step = 6 ∧ b.discardsSaturated b.oldEpoch = false ∧ b.balanceSum b.oldEpoch = 0 then b.completeChange ch.cause else b

def execEpochDrained (s : State) : Host.Outcome State Fault Refusal := runB Block.epochDrained s

/-- 1 ms after the broadcast, or at once where a discard count has saturated. -/
def Block.drainTimeout (b : Block) : Block :=
  match b.stw.change with
  | none => b
  | some ch =>
    if ch.step ≠ 6 then b
    else
      let e := b.oldEpoch
      let b := if b.discardsSaturated e then b else b.until (ch.sent + oneMs)
      let held := (having 112 (fun n => b.nodeHolds n e))
      let b := held.foldl (fun b n => (b.raise (srcNode n 1) clNODE 2 n).flushNode n e) b
      b.completeChange ch.cause

def execDrainTimeout (s : State) : Host.Outcome State Fault Refusal := runB Block.drainTimeout s

/-! ### ROUTE_TABLE_AUDIT (R545) -/

/-- The steward compares every live node's tables of the current epoch with its own, and asks for a change where one differs. -/
def Block.routeTableAudit (b : Block) : Block :=
  if b.stwServes = false then b
  else
    let bad := (having 112 (fun n => b.nodeLive n (b.epochNo % 2) && b.tableDiffers n (b.epochNo % 2)))
    let b := bad.foldl (fun b n => b.raise (srcNode n 1) clNODE 1 n) b
    if bad = [] ∨ b.stw.queue.contains .audit = true then b else b.askChange .audit

def execRouteTableAudit (ups : List Upset) (s : State) : Host.Outcome State Fault Refusal :=
  need (ups.all upsetOk) (runB (fun b => (b.upsets ups).routeTableAudit) s)

end Sys2Proof.Machine
end

