-- ==== Sys2Proof/Machine/Observe.lean ====
section
/-! DEFINITION. Snapshots, dumps and samples: the commands COUNTER_SNAPSHOT to SAMPLE_CLEAR (15 R457-R464). -/
namespace Sys2Proof.Machine

/-! ### Snapshots (R457-R459) -/

/-- PERIOD as it acts: 0 disables, and the rest is clamped (R467). -/
def periodOf (n : Nat) : Nat := if n = 0 then 0 else clamp 4 3906250 n

/-- The label of the next snapshot instant: periodic or one-shot, whichever comes first. A step may have skipped the one-shot's (R458). -/
def Block.nextSnapshot (b : Block) : Option Nat :=
  let p := periodOf b.pr.period * 65536
  let per := if p = 0 then none else some ((b.now / p + 1) * p)
  match per, b.pr.shotAt with
  | some x, some y => if b.now < y then some (min x y) else some x
  | some x, none => some x
  | none, y => y.filter (fun t => decide (b.now < t))

/-- The counter page that holds a key of the counter file, and the counter's place on it in 8-byte words. -/
def cntPage (k : Nat) : Nat := k / 512
def cntWord (k : Nat) : Nat := k % 512

def isCounterWord (k : Nat) : Bool := decide (8 ≤ cntWord k) && decide (cntWord k < 8 + (if cntPage k < 0x500 then 58 else 48))

def Block.pageOn (b : Block) (p : Nat) : Bool := b.pageUp p && b.domState (domOfPage p) == 0

/-- Every page whose domain is ON copies its counters into their snapshot words. -/
def Block.snapshot (b : Block) : Block :=
  let kept := b.cnt.filter (fun q => isCounterWord q.1 || !b.pageOn (cntPage q.1))
  let new := b.cnt.filter (fun q => isCounterWord q.1 && b.pageOn (cntPage q.1))
  { b with cnt := new.foldl (fun m q => AMap.set 0 m (q.1 + 128) (AMap.get 0 b.cnt q.1)) kept }

/-! ### Dumps (R460) -/

/-- Pages of a dump, in ascending order. -/
def Block.dumpPages (b : Block) : List Nat :=
  (if b.on pgPR PR_DUMP_CTRL_NODES then (List.range 112).map pgCntNode else []) ++
  (if b.on pgPR PR_DUMP_CTRL_NIS then (List.range 216).map pgCntNi else [])

/-- Counters of a page's image. -/
def imageCount (p : Nat) : Nat := if p < 0x500 then 58 else 48

/-- The image of page `p`: `got` its snapshot words, of which any not read stand as 0. -/
def pageImage (p : Nat) (on : Bool) (got : List Byte) : List Byte :=
  leBytes 2 p ++ leBytes 1 (b2n (!on)) ++ leBytes 5 0 ++ got ++ List.replicate (8 * imageCount p - got.length) 0

def Dump.header (d : Dump) (state : Nat) : List Byte :=
  leBytes 4 d.seq ++ leBytes 1 state ++ leBytes 1 d.status ++ leBytes 2 d.pages ++ leBytes 8 d.instant.toNat ++ leBytes 4 d.skipped ++
  List.replicate 44 0

-- DESIGN CHOICE (notes/assumptions/56.md)
/-- Present `bs` at address `a` as WRs of at most 256 bytes: WR as R460 says, where 01 R21's table names WRP for the counter dumps. -/
def Block.dumpWrite (b : Block) (a : Nat) (bs : List Byte) : Nat → Block
  | 0 => b
  | n + 1 =>
    match bs with
    | [] => b
    | _ =>
      (b.present 211 (writeReq oWR cMGT (b.g pgPR PR_DUMP_CTRL_QOS) a (bs.take 256))).dumpWrite (a + 256) (bs.drop 256) n

/-- Where the next read of page `p` lies, `got` bytes of its snapshot area being read. -/
def dumpAddr (p got : Nat) : Nat := pageAddr p (0x440 + got)

/-- Read on in page `p`, at most 256 bytes at a time. -/
def Block.dumpRead (b : Block) (p got : Nat) : Block :=
  b.present 211 { opc := oRD, cls := cMGT, qos := b.g pgPR PR_DUMP_CTRL_QOS, addr := dumpAddr p got,
                  len := min 256 (8 * imageCount p - got) - 1 }

/-- Go on with the pages `ps` of dump `d`: read the first whose domain was ON; an image of zeros stands for one that was not. -/
def Block.dumpNext (b : Block) (d : Dump) : List (Nat × Bool) → Block
  | [] => { b with pr := { b.pr with dump := some { d with todo := [], got := [] } } }
  | (p, true) :: ps => { b.dumpRead p 0 with pr := { (b.dumpRead p 0).pr with dump := some { d with todo := (p, true) :: ps, got := [] } } }
  | (p, false) :: ps =>
    let im := pageImage p false []
    (b.dumpWrite d.dest im 2).dumpNext { d with dest := d.dest + im.length } ps

-- DESIGN CHOICE (notes/assumptions/56.md)
/-- The PR takes the answer to one of its requests: bytes of the page that it reads, or a write's status. A read that is not answered with
data leaves its words 0. -/
def Block.dumpTakes (b : Block) (r : Request) (st : Nat) (bytes : List Byte) : Block :=
  match b.pr.dump with
  | none => b
  | some d =>
    if r.opc ≠ oRD then (if st = stOK then b else { b with pr := { b.pr with dump := some { d with failed := true } } })
    else match d.todo with
      | [] => b
      | (p, _) :: ps =>
        if r.addr ≠ dumpAddr p d.got.length then b
        else
          let got := d.got ++ bytes.take (r.len + 1) ++ List.replicate (r.len + 1 - bytes.length) 0
          if got.length < 8 * imageCount p then
            let b := b.dumpRead p got.length
            { b with pr := { b.pr with dump := some { d with got := got } } }
          else
            let im := pageImage p true got
            (b.dumpWrite d.dest im 2).dumpNext { d with dest := d.dest + im.length } ps

def Block.ringLog2 (b : Block) : Nat := min 6 (b.g pgPR PR_DUMP_CTRL_RING_LOG2)
def Block.dumpBase (b : Block) : Nat := b.g64 pgPR PR_DUMP_BASE % 2 ^ 48

/-- Begin the dump of an instant: the header with STATE WRITING, then the pages in ascending order. -/
def Block.startDump (b : Block) : Block :=
  let seq := b.g pgPR PR_DUMP_SEQ_SEQ
  let base := b.dumpBase + 0x40000 * (seq % 2 ^ b.ringLog2)
  let d : Dump := { seq := seq, status := b.timeStatus, pages := b.dumpPages.length, instant := BitVec.ofNat 64 b.stamp,
                    skipped := b.g pgPR PR_STATUS_SKIPPED, base := base, dest := base + 64 }
  let ps := b.dumpPages.map (fun p => (p, b.pageOn p))
  (((b.s pgPR PR_STATUS_BUSY 1).wrapInc pgPR PR_DUMP_SEQ_SEQ).dumpWrite base (d.header 1) 1).dumpNext d ps

def Block.prOn (b : Block) : Bool := b.pageOn pgPR

def Block.counterSnapshot (b : Block) : Block :=
  match b.nextSnapshot with
  | none => b
  | some t =>
    let b := b.untilTime t
    let b := { b with pr := { b.pr with shotAt := if b.pr.shotAt = some t then none else b.pr.shotAt } }
    let b := b.snapshot
    if b.prOn = false ∨ b.on pgPR PR_DUMP_CTRL_EN = false then b
    else if b.on pgPR PR_STATUS_BUSY then b.bump pgPR PR_STATUS_SKIPPED
    else b.startDump

def execCounterSnapshot (s : State) : Host.Outcome State Fault Refusal := runB Block.counterSnapshot s

/-- Every page is read and every RSP_WR has returned, or a write has failed: the header is rewritten. -/
def Block.dumpComplete (b : Block) : Block :=
  match b.pr.dump with
  | none => b
  | some d =>
    let x := b.ni 211
    let finish (b : Block) (state : Nat) : Block :=
      let b := { b.s pgPR PR_STATUS_BUSY 0 with pr := { b.pr with dump := none } }
      b.dumpWrite d.base (d.header state) 1
    if d.failed then
      finish ((b.modNi 211 (fun y => { y with waitq := AMap.set [] y.waitq cMGT [] })).raise srcPR clNI 1) 3
    else if d.todo = [] ∧ x.txns = [] ∧ AMap.get [] x.waitq cMGT = [] then finish b 2
    else b

def execDumpComplete (s : State) : Host.Outcome State Fault Refusal := runB Block.dumpComplete s

/-- The first frame start at least 100 µs on. -/
def Block.dumpOneShot (b : Block) : Block :=
  let f := 16384 * 256
  if b.prOn then { b with pr := { b.pr with shotAt := some (ceilDiv (b.now + us100) f * f) } } else b

def execDumpOneShot (s : State) : Host.Outcome State Fault Refusal := runB Block.dumpOneShot s

/-- A write of `v` to PR_DUMP_PERIOD. -/
def Block.periodDistribute (b : Block) (v : Word) : Block :=
  if b.prOn then
    let p := bitsOf v.toNat 0 22
    { (b.s pgPR PR_DUMP_PERIOD_PERIOD p).s pgPR PR_STATUS_PEND 1 with pr := { b.pr with newPeriod := some p } }
  else b

def execPeriodDistribute (w : Word) (s : State) : Host.Outcome State Fault Refusal := runB (fun b => b.periodDistribute w) s

/-- Distribution is complete now: the first whole second that follows takes the new PERIOD into use. -/
def Block.periodActivate (b : Block) : Block :=
  match b.pr.newPeriod with
  | none => b
  | some p =>
    let b := b.untilTime ((b.now / secUnits + 1) * secUnits)
    { b.s pgPR PR_STATUS_PEND 0 with pr := { b.pr with period := p, newPeriod := none } }

def execPeriodActivate (s : State) : Host.Outcome State Fault Refusal := runB Block.periodActivate s

/-- A ring must lie in the host-port windows or in the frond area of one bank (R466). -/
def Block.ringOk (b : Block) : Bool :=
  let a := b.dumpBase
  let e := a + 0x40000 * 2 ^ b.ringLog2 - 1
  (inHostWindows a && inHostWindows e) ||
  (match area a, area e with
   | .bank k x, .bank j y => k == j && decide (x < 0x7DC000) && decide (y < 0x7DC000)
   | _, _ => false)

/-- What follows a write of PR_DUMP_CTRL or PR_DUMP_BASE. -/
def Block.dumpChecked (b : Block) : Block :=
  if b.on pgPR PR_DUMP_CTRL_EN = true ∧ b.ringOk = false then (b.s pgPR PR_DUMP_CTRL_EN 0).s pgPR PR_STATUS_WR_REFUSED 1 else b

/-! ### SAMPLE_CLEAR (R463, R464) -/

/-- Empty the sample buffer of NI `i` and restart selection. -/
def Block.sampleClear (b : Block) (i : Nat) : Block :=
  if b.niUp i then
    ((b.modNi i (fun x => { x with samples := [], sampleN := 0 })).s (pgNi i) NI_SAMPLE_STAT_NEXT 0).s (pgNi i) NI_SAMPLE_STAT_STORED 0
  else b

def execSampleClear (ni : Nat) (s : State) : Host.Outcome State Fault Refusal :=
  need (isNi ni) (runB (fun b => b.sampleClear ni) s)

end Sys2Proof.Machine
end

