-- ==== Sys2Proof/Machine/Views.lean ====
section
/-! DEFINITION. What a read of a register page returns: stored words, words computed from the units, and counter pages
(18 R519, R520, R523; 15 R448-R463). -/
namespace Sys2Proof.Machine

/-! ### Computed words of register pages -/

/-- The node, NI or bank that the page belongs to is isolated (R523). -/
def Block.pageIsolated (b : Block) (p : Nat) : Bool :=
  match kindOf p with
  | some .node => b.stw.isoNodes.contains (instanceOf p)
  | some .niLoop | some .niSys => b.stw.isoNis.contains (instanceOf p)
  | some .fs => b.stw.isoNis.contains (192 + instanceOf p)
  | some .cntNode => b.stw.isoNodes.contains (instanceOf p)
  | some .cntNi => b.stw.isoNis.contains (instanceOf p)
  | _ => false

def Block.pgStatus (b : Block) (p : Nat) : Nat :=
  let d := domOfPage p
  b2n (b.pageUp p) + 4 * b2n (b.domPhase d == 5) + 8 * b2n (b.pageIsolated p) + 16 * b.domState d

/-- PG_EV_RAW. -/
def Block.evRawWord (b : Block) (p : Nat) : Nat :=
  maskOf (sourcesOf p).2 (fun k => b.evRaw ((sourcesOf p).1 + k))

/-- NODE_EPOCH, NODE_DRAIN and NODE_ARB_PROFILE hold fields that follow the node's state (03 R85, R88; 04 R100). -/
def Block.nodeView (b : Block) (n off : Nat) : Nat :=
  let v := (b.rd (pgNode n) off).toNat
  if off = 0x040 then putBits v 4 2 (b2n (b.bankLocked n 0) + 2 * b2n (b.bankLocked n 1))
  else if off = 0x050 then putBits v 0 2 (b2n (!b.nodeHolds n 0) + 2 * b2n (!b.nodeHolds n 1))
  else if off = 0x060 then putBits (putBits v 8 1 (b2n (b.badProfile n 0))) 26 6 (b.cellNs n / 16 % 64)
  else if off = 0x064 ∨ off = 0x068 ∨ off = 0x06C then putBits v 8 1 (b2n (b.badProfile n ((off - 0x060) / 4)))
  else v

-- DEDUCED (notes/assumptions/68.md)
/-- NI_CREDIT, NI_TAGS, and what NI_SINK_WDOG and NI_LP_STAT show of LP_PWR_OK (09 R283, R298, R301). -/
def Block.niView (b : Block) (i off : Nat) : Nat :=
  let v := (b.rd (pgNi i) off).toNat
  let x := b.ni i
  if off = 0x044 then putBits v 0 11 (rspSpace i - x.spaceUsed)
  else if off = 0x048 then
    putBits (putBits v 0 10 ((List.range (tagCount i)).filter (fun t => !x.tagBusy t)).length) 20 10 x.heldTags.length
  else if isLoopNi i ∧ off = 0x050 then if b.lpPwr i then v else putBits (putBits v 0 1 1) 2 3 6
  else if isLoopNi i ∧ off = 0x05C then putBits v 0 1 (b2n (b.lpPwr i))
  else v

/-- FS_SPACE: granules whose map entry is not tagged, and descriptors that are DEFINED (07 R232). -/
def Sys.fsSpace (w : Sys) (k : Nat) : Nat :=
  let tagged := (w.mem.cells.filter (fun c =>
    decide (granuleAddr k 0 ≤ c.1) && decide (c.1 < granuleAddr k 8048) && c.1 % 2 == 1 && bit c.2.toNat 7)).length
  let defd := (w.mem.cells.filter (fun c =>
    decide (descAddr k 0 ≤ c.1) && decide (c.1 < descAddr k 1024) && (c.1 - descAddr k 0) % 128 == 0 && bit c.2.toNat 0)).length
  8048 - tagged + defd * 2 ^ 16

/-- FS_STATUS and FS_SLOT show which slots stream (07 R230, R233). -/
def Block.fsView (b : Block) (k off : Nat) : Nat :=
  let v := (b.rd (pgFs k) off).toNat
  if off = 0x040 then putBits v 1 4 (maskOf 4 (b.slotStreams k))
  else if 0x060 ≤ off ∧ off < 0x070 then putBits v 10 1 (b2n (b.slotStreams k ((off - 0x060) / 4)))
  else v

/-- CSQ_STATUS (06 R202). -/
def Block.csqStatus (b : Block) : Nat :=
  maskOf 4 (fun k => b.slotState k != 0) + 2 ^ 4 * b2n b.tu.step.isSome + 2 ^ 5 * b2n (b.safe || b.csq.bad) +
  2 ^ 8 * min 8 b.outcomesWaiting + 2 ^ 16 * (b.csq.cid % 2 ^ 16)

/-- TU_LATTICE's counts, over cells whose domain is ON (05 R160). -/
def Block.latticeCounts (b : Block) (v : Nat) : Nat :=
  let on := having 112 (fun n => b.domState (domOfNode n) == 0 && (b.dom (domOfNode n)).up)
  let count (s : Nat) : Nat := (on.filter (fun n => b.g pgTU (TU_CELL_SRC n) == s && (s != 3 || (b.cell n).lost))).length
  putBits (putBits (putBits v 8 8 (count 1)) 16 8 (count 2)) 24 8 (count 3)

/-- MM_STATUS, MM_SPARE, MM_POISON and MM_REPEAT (11 R353, R356, R357). -/
def Block.mmView (b : Block) (off : Nat) : Nat :=
  let v := (b.rd pgMM off).toNat
  if off = 0x040 then putBits (putBits v 0 7 b.mm.poison.length) 8 6 b.mm.repeats.length |> fun v => putBits v 14 1 (b2n b.mm.lcWipe)
  else if 0x180 ≤ off ∧ off < 0x1B0 then
    let r := (off - 0x180) / 4
    let total := sparesOf r
    (total - (b.mm.rows.filter (fun q => q.1 == r)).length) + total * 2 ^ 10
  else if 0x200 ≤ off ∧ off < 0x400 then
    match b.mm.poison[(off - 0x200) / 8]? with
    | some q => if off % 8 = 0 then q.1 % 2 ^ 32 else q.1 / 2 ^ 32 + q.2 * 2 ^ 16 + 2 ^ 31
    | none => 0
  else if 0x400 ≤ off ∧ off < 0x500 then
    match b.mm.repeats[(off - 0x400) / 8]? with
    | some e => if off % 8 = 0 then e.addr % 2 ^ 32 else e.addr / 2 ^ 32 + e.region * 2 ^ 16 + e.count * 2 ^ 24 + 2 ^ 31
    | none => 0
  else v

/-- EVL_STATUS, EVL_CHAIN_CTR, EVL_GAP, and EVL_PUBKEY, which is zero unless KEYED (08 R261, R263, R265, R266). -/
def Block.evlView (b : Block) (off : Nat) : Nat :=
  let v := (b.rd pgEVL off).toNat
  if off = 0x040 then
    putBits (putBits v 4 2 (b2n (decide (b.evlFree ≤ 16)) + 2 * b2n (decide (fullWarn b ≤ b.evlHeld)))) 8 4 b.evl.resv
  else if off = 0x060 then b.chainCtr % 2 ^ 32
  else if off = 0x064 then b.chainCtr / 2 ^ 32 % 2 ^ 32
  else if 0x080 ≤ off ∧ off < 0x0A0 ∧ b.g pgEVL EVL_STATUS_KEY_STATE ≠ 2 then 0
  else if off = 0x06C then (match b.evl.gap with | some g => g.omitted | none => 0)
  else v

/-- A register word as a read returns it; a WO field reads zero (R520). -/
def Sys.view (w : Sys) (p off : Nat) : Nat :=
  let b := w.blk
  if off = 0x00C then b.pgStatus p
  else if off = 0x010 then b.evRawWord p
  else
    match kindOf p with
    | some .node => b.nodeView p off
    | some .niLoop | some .niSys => b.niView (p - 0x100) off
    | some .fs => if off = 0x058 then w.fsSpace (p - 0x200) else b.fsView (p - 0x200) off
    | some .csq => if off = 0x040 then b.csqStatus else (b.rd p off).toNat
    | some .tu =>
      if off = 0x07C then b.latticeCounts (b.rd p off).toNat
      else if off = 0x078 then intBits 32 b.corr
      else (b.rd p off).toNat
    | some .mm => b.mmView off
    | some .evl => b.evlView off
    | some .pm => if off = 0x040 then putBits (b.rd p off).toNat 0 4 (b.devState + 8 * b2n b.pmBusy) else (b.rd p off).toNat
    | some .top => if off = 0x040 then putBits (b.rd p off).toNat 8 8 b.pins.lc.toNat else (b.rd p off).toNat
    | _ => (b.rd p off).toNat

/-! ### Counter pages (15 R448-R463) -/

/-- Is there a counter at this offset of a node's or NI's counter page? -/
def counterAt (p off : Nat) : Bool :=
  if p < 0x500 then
    let o := (off - 0x040) / 0x40
    off % 8 == 0 && ((decide (0x040 ≤ off) && decide (off < 0x200) && portExists (p - 0x400) o &&
      (decide (off % 0x40 ≠ 0x38) || decide (o < 4))) || off == 0x200 || off == 0x208)
  else off % 8 == 0 && (decide (0x040 ≤ off) && decide (off < 0x068) || decide (0x080 ≤ off) && decide (off < 0x0E0) ||
    decide (0x100 ≤ off) && decide (off < 0x160) || decide (0x180 ≤ off) && decide (off < 0x1C0))

/-- The 8 bytes at `off` of a counter page: header words, counters, snapshots, and the sample window of an NI. -/
def Sys.counterBytes (w : Sys) (p off : Nat) : List Byte :=
  let b := w.blk
  if off < 0x040 then leBytes 4 (w.view p off) ++ leBytes 4 (w.view p (off + 4))
  else if counterAt p off ∨ (0x440 ≤ off ∧ counterAt p (off - 0x400) = true) then leBytes 8 (b.counter p off).toNat
  else if 0x500 ≤ p ∧ 0x800 ≤ off then
    let i := p - 0x500
    let r := 64 * b.g (pgNi i) NI_SAMPLE_WIN + (off - 0x800) / 32
    sliceBytes (AMap.get [] (b.ni i).samples r) (off % 32) 8
  else leBytes 8 0

/-! ### Reading a page -/

/-- A read whose first byte is TU_TIME's captures extended device time and status (05 R151). -/
def Block.captureTime (b : Block) : Block :=
  ((b.s pgTU TU_TIME_FRAC b.frac).s pgTU TU_TIME_STATE b.timeStatus).s64 pgTU 0x044 b.stamp

/-- Read `len` bytes at `off` of page `p`: the access is aligned and stays within the page. -/
def Sys.readPage (w : Sys) (p off len : Nat) : List Byte × Sys :=
  let w := if p = pgTU ∧ off = 0x040 then w.upd Block.captureTime else w
  let bytes :=
    if isCounterPage p then (List.range (len / 8)).flatMap (fun j => w.counterBytes p (off + 8 * j))
    else (List.range (len / 4)).flatMap (fun j => leBytes 4 (w.view p (off + 4 * j)))
  (bytes, w)

end Sys2Proof.Machine
end

