-- ==== Sys2Proof/Machine/Resets.lean ====
section
/-! DEFINITION. What a fabric reset and a power-on reset leave behind; the crozier that follows is Machine/Crozier.lean's
(16 R470-R472, R483; 06 "When events meet"; 08 R250, R257; 09 R302; 10 R317; 11 R346; 14 R430; 19 R541). -/
namespace Sys2Proof.Machine

def rcPORST : Nat := 1
def rcFRST : Nat := 2
def rcSOFT : Nat := 3
def rcWDOG : Nat := 4
def rcLIFECYCLE : Nat := 5

/-! ### Fabric reset -/

/-- Slots that hold a reservation, in the CSQ's queue of outcomes or in the slot itself, with the commit ids. -/
def Block.reservations (b : Block) : List (Nat × Nat) :=
  b.evl.queue.filterMap (fun d =>
    if d.typ = tyCOMMIT ∧ d.reserved = true then some ((d.body.getD 6 0).toNat % 4, leNat (d.body.take 4)) else none) ++
  (List.range 4).filterMap (fun k => if (b.slot k).reserved then some (k, (b.slot k).cid) else none)

/-- The EVL at a fabric reset: reservations are released, and no outcome that still waits is recorded. -/
def Block.releaseReservations (b : Block) : Block :=
  { b with evl := { b.evl with lost := b.evl.lost ++ b.reservations, resv := 0,
                               queue := b.evl.queue.filter (fun d => d.typ != tyCOMMIT) } }

/-- A domain's entry or wake ends with the reset. It keeps the power state of its switches; RETAIN has lost its arrays, and a
domain under test counts as OFF. -/
def Block.resetPower (b : Block) (d : Nat) : Block :=
  let ph := b.domPhase d
  let x := b.dom d
  let b := if 8 ≤ ph then (b.s pgPM (PM_DOMAIN_FAIL d) 6).wakeEnds d 6 else b
  let st := if ph = 5 then 2 else if 9 ≤ ph then 0 else if b.domState d = 1 then 2 else b.domState d
  let b := (b.s pgPM (PM_DOMAIN_STATE d) st).s pgPM (PM_DOMAIN_PHASE d) 0
  b.modDom d (fun y => { y with up := false, planRun := none, test := false, included := false, waitSd := false, retry := false,
                                ramResult := none, cut := if ph = 5 then x.planRun else y.cut })


-- DEDUCED (notes/assumptions/59.md)
/-- An always-on NI at a fabric reset: its maps read OFF, its regions and commit records are reset (06 R197; 10 R322), it injects in
epoch 0, and what it had on the links is gone. -/
def Block.resetAoNi (b : Block) (i : Nat) : Block :=
  let pg := pgNi i
  let b := ((List.range 14).flatMap (fun j => [0x100 + 4 * j, 0x140 + 4 * j]) ++ (List.range 128).map (fun j => 0x200 + 4 * j)).foldl
    (fun (b : Block) o => b.wr pg o (resetWord pg o)) b
  ((b.s pg NI_INFO_CUR 0).s pg NI_INFO_LIVE 0).modNi i (fun x =>
    { x with tx := [], inj := [], injRest := [], injPkt := [], injAged := [], injCand := [], asm := [], owed := [], rx := [],
             bal := [], recs := [], badLines := [], swapAt := none })

-- DEDUCED (notes/assumptions/59.md)
/-- Every unit outside AO at its reset values, and what the always-on units do at the reset. An LC_PREPARE that had not recorded its
target ends with its mailbox command, and the log goes on. -/
def Block.fabricReset (b : Block) (cause : Nat) : Block :=
  let b := ((b.s pgTOP TOP_RESET_CAUSE_CAUSE cause).bump pgTOP TOP_RESET_CAUSE_FRSTS).releaseReservations
  let b := (List.range 25).foldl (fun b d => (b.resetPower d).resetDom d) b
  let b := [0, 1, 2].foldl (fun b r => b.autoOff r) b
  let b := activeSetOffsets.foldl (fun b o => b.wr pgGT o 0) b
  let b := aoNis.foldl (fun b i => b.resetAoNi i) b
  let b := (List.range 216).foldl (fun b i => b.modNi i (fun x => { x with swapAt := none })) b
  if b.lc.target.isNone then
    { b with lc := { b.lc with preparing := none, handed := false },
             evl := { b.evl with due := if b.evl.due = some ckHANDOVER then none else b.evl.due } }
  else b

/-! ### Power-on reset -/

/-- Memories that a power-on reset wipes (11 R346). -/
def porstWiped : List Nat := [0, 1, 2, 3, 4, 5, 6, 7, 8, 10, 11, 12]

/-- PORST_N low: every unit at its reset values, device time 0. The ledger, the keys in its key region and its device words,
the levels of the pins, the place of the ledger's scrub engine (11 R356), and what the cartridge and the rails are stay. -/
def Sys.powerOn (w : Sys) : Sys :=
  let b := w.blk
  let w := w.emit (porstWiped.map (fun r => .wipe (regionBase r) (regionBase r + regionSize r)))
  let pg (r : Nat) : Nat := b.g pgPM (PM_RAIL_STATUS_PG r)
  let fresh : Block :=
    { elapsed := b.elapsed, free := b.free, pins := { b.pins with porst := false }, lc := { b.lc with preparing := none, handed := false },
      evl := { curKeys := b.evl.curKeys, nextKeys := b.evl.nextKeys },
      cp := { image := b.cp.image, useSeq := b.cp.useSeq } }
  let fresh := { fresh with mm := { scrubAt := b.mm.scrubAt.filter (fun q => q.1 == 9) } }.wr pgMM (MM_SCRUB_POS_WORD 9).off (b.rd pgMM (MM_SCRUB_POS_WORD 9).off)
  let w : Sys := { w with blk := (List.range 4).foldl (fun c r => c.s pgPM (PM_RAIL_STATUS_PG r) (pg r)) fresh }
  w.showAnchor

end Sys2Proof.Machine
end

