-- ==== Sys2Proof/Machine/Mailbox.lean ====
section
/-! DEFINITION. The steward's mailbox: its commands RESYNC to MBOX_UNKNOWN, and RESPONSE_DELIVERED, which ends the commands that
write to a host (16 R475-R478, R488, R491-R496; 09 R269). -/
namespace Sys2Proof.Machine

/-! ### Taking a command (R491, R492) -/

-- DEDUCED (notes/assumptions/61.md)
/-- What a command refuses before it looks at its arguments: the group, then the safe state. -/
def Block.mboxCheck (b : Block) (code mg : Nat) : Option Nat :=
  let open15 := mg == 15 && [1, 7, 9].contains code && !b.lcInvalid && (b.lcState == lcBUILD || b.lcState == lcRETURN)
  if !(mg == 0 || open15) then some mbGROUP
  else if b.safe && [4, 6, 8].contains code then some mbSAFE
  else none

-- DEDUCED (notes/assumptions/61.md)
/-- STW_MBOX_CMD takes word `v` of group `mg` while no command runs: `f` carries it out. -/
def Sys.mboxTake (w : Sys) (v : Word) (mg : Nat) (f : Sys → Sys) : Sys :=
  let code := bitsOf v.toNat 0 8
  let w := w.upd (fun b => { b.s pgSTW STW_MBOX_STATUS_BUSY 1 with stw := { b.stw with mbox := some v, waits := false } })
  match w.blk.mboxCheck code mg with
  | some r => w.upd (fun b => b.mboxDone r [])
  | none => f w

/-- A write of STW_MBOX_CMD: ignored while a command runs or the mailbox is not open. `f` carries the command out. -/
def Sys.mboxCmd (w : Sys) (v : Word) (mg : Nat) (f : Sys → Sys) : Sys :=
  if (w.blk.dom domSD).up = false then w
  else if w.blk.stwServes = false ∨ w.blk.stw.mbox.isSome = true then w.upd (fun b => b.s pgSTW STW_MBOX_STATUS_WR_REFUSED 1)
  else w.mboxTake v mg f

-- DEDUCED (notes/assumptions/67.md)
/-- A command that takes something from outside: it is carried out now, whether its word comes with it or was written before. -/
def Sys.mboxRow (w : Sys) (v : Word) (mg : Nat) (f : Sys → Sys) : Sys :=
  if w.blk.stw.waits = true ∧ w.blk.stw.mbox = some v then
    f (w.upd (fun b => { b with stw := { b.stw with waits := false } }))
  else w.mboxCmd v mg f

def Block.mArg (b : Block) (j : Nat) : Nat := (b.rd pgSTW (STW_MBOX_ARG j)).toNat

def Block.hostAddr (b : Block) (j : Nat) : Nat := b.mArg j + 2 ^ 32 * b.mArg (j + 1)

/-- Bytes [a, a + len) lie in the host-port windows. -/
def hostRange (a len : Nat) : Bool := inHostWindows a && inHostWindows (a + len - 1)

/-! ### Writing to a host (R493, R495) -/

/-- Present `bs` at `a` as WRs of NI 204 in MGT, at most 256 bytes each. -/
def Block.hostWrites (b : Block) (a : Nat) (bs : List Byte) : Nat → Block
  | 0 => b
  | n + 1 => if bs = [] then b else (b.present 204 (writeReq oWR cMGT 0 a (bs.take 256))).hostWrites (a + 256) (bs.drop 256) n

/-- Write `bs` at `a`; the command that runs ends when every WR is answered. -/
def Block.hostSend (b : Block) (a : Nat) (bs : List Byte) : Block :=
  let b := { b with stw := { b.stw with tail := none, hostFailed := false } }
  b.hostWrites a bs (bs.length / 256 + 1)

/-- Does NI 204 still wait for the answer of a WR? -/
def Block.hostWaits (b : Block) : Bool :=
  ((b.ni 204).txns ++ (b.ni 204).ended).any (fun t => t.req.opc == oWR) || (b.ni 204).waitq.any (fun q => q.2.any (fun r => r.1.opc == oWR))

/-- The steward takes the answer `st` of one of its WRs. -/
def Block.hostAnswer (b : Block) (st : Nat) : Block :=
  let b := if st = stOK then b else { b with stw := { b.stw with hostFailed := true } }
  if b.hostWaits || b.stw.mbox.isNone then b
  else if b.stw.hostFailed then ({ b with stw := { b.stw with tail := none } }).mboxDone mbHOST []
  else match b.stw.tail with
    | some t => ({ b with stw := { b.stw with tail := none } }).hostWrites t.1 t.2 1
    | none =>
      let resync := b.stw.mbox.any (fun v => bitsOf v.toNat 0 8 == 1)
      b.mboxDone mbOK (if resync then [(4, b.stw.gen)] else [])

/-- The endpoint of NI `i` takes a response (09 R269, R274). -/
def Block.delivered (b : Block) (i t : Nat) : Block :=
  match b.deliverable i t with
  | none => b
  | some x =>
    let b := b.responseDelivered i t
    let st := (x.rsp.map (fun r => r.status)).getD stABORT
    if i = 204 ∧ x.req.opc = oWR then b.hostAnswer st
    else if i = 211 then b.dumpTakes x.req st ((x.rsp.map (fun r => r.bytes)).getD [])
    else b

def execResponseDelivered (ni tag : Nat) (s : State) : Host.Outcome State Fault Refusal :=
  need (isNi ni) (runB (fun b => b.delivered ni tag) s)

/-! ### RESYNC (R495, R496) -/

def bitMap (len : Nat) (ids : List Nat) : List Byte := leBytes len (maskOf (8 * len) ids.contains)

/-- `n` register words of page `p` from `off` on. -/
def Sys.words (w : Sys) (p off n : Nat) : List Byte := (List.range n).flatMap (fun j => leBytes 4 (w.view p (off + 4 * j)))

def Sys.slotSummary (w : Sys) (k : Nat) : List (Nat × List Byte) :=
  let o := 0x180 + 0x80 * k
  let c := 0x100 + 0x80 * k
  [(o, w.words pgCSQ c 1), (o + 0x04, w.words pgCSQ (c + 0x04) 1), (o + 0x08, w.words pgCSQ (c + 0x08) 2),
   (o + 0x10, w.words pgCSQ (c + 0x10) 7), (o + 0x30, w.words pgCSQ (c + 0x30) 8), (o + 0x50, w.words pgCSQ (c + 0x6C) 1)]

/-- The summary, without its CHECK. -/
def Sys.summary (w : Sys) (gen : Nat) : List Byte :=
  let b := w.blk
  layBytes 4092 ([(0x000, leBytes 4 0x4E445253), (0x004, [1]), (0x008, leBytes 4 gen), (0x010, leBytes 8 b.stamp),
    (0x018, leBytes 8 b.stamp), (0x020, w.words pgTU 0x040 1), (0x024, w.words pgTU 0x07C 1), (0x030, w.words pgTOP 0x040 2),
    (0x038, w.words pgLG 0x040 2), (0x040, w.words pgPM 0x040 1), (0x048, w.words pgPM 0x100 26),
    (0x0B0, w.words pgPM 0x050 3), (0x0C0, leBytes 4 b.epochNo),
    (0x0C4, leBytes 4 (b2n b.stw.change.isSome + 2 * b2n (b.stw.change.any (fun c => c.step == 6)))),
    (0x0C8, bitMap 16 (having 112 (fun n => b.nodeLive n (b.epochNo % 2)))), (0x0D8, bitMap 16 b.stw.isoNodes),
    (0x100, bitMap 32 b.stw.isoNis), (0x120, bitMap 32 b.stw.isoLinks), (0x140, w.words pgGT 0x060 7),
    (0x15C, w.words pgGT 0x040 1), (0x160, w.words pgCSQ 0x040 1)] ++ (List.range 4).flatMap w.slotSummary ++
   [(0x380, w.words pgFC 0x040 2 ++ w.words pgFC 0x04C 1 ++ w.words pgFC 0x048 1), (0x390, w.words pgFC 0x054 3), (0x3A0, w.words pgFC 0x100 32), (0x420, w.words pgEVL 0x040 1),
    (0x424, w.words pgEVL 0x048 2 ++ w.words pgEVL 0x054 1), (0x430, w.words pgEVL 0x060 2), (0x438, w.words pgEVL 0x068 2),
    (0x440, w.words pgEVL 0x120 8), (0x460, w.words pgCP 0x048 4), (0x470, w.words pgCP 0x058 1), (0x474, w.words pgLG 0x048 1),
    (0x480, w.words pgPR 0x040 1 ++ w.words pgPR 0x054 1 ++ w.words pgPR 0x044 1), (0x490, w.words pgSTW 0x040 1)])

/-- Bytes 0x010 on are written first; bytes 0x000-0x00F follow every answer. -/
def Sys.mboxResync (w : Sys) : Sys :=
  let a := w.blk.hostAddr 0
  if hostRange a 4096 = false ∨ a % 4096 ≠ 0 then w.upd (fun b => b.mboxDone mbARG [])
  else
    let gen := (w.blk.stw.gen + 1) % 2 ^ 32
    let body := w.summary gen
    let bytes := body ++ leBytes 4 (crc32cOf body)
    w.upd (fun b =>
      let b := { b with stw := { b.stw with gen := gen, tail := some (a, bytes.take 16), hostFailed := false } }
      (b.present 204 (writeReq oWR cMGT 0 (a + 16) (sliceBytes bytes 16 240))).hostWrites (a + 256) (bytes.drop 256) 15)

/-! ### CFG_SAVE and CFG_ERASE (R475-R478) -/

def cfgAddr (copy : Nat) : Nat := ledgerAddr + 0x40000 * copy

/-- The records of a body, or none where one is malformed or passes the end. -/
def cfgRecords : Nat → List Byte → Option (List CfgRec)
  | 0, bs => if bs = [] then some [] else none
  | n + 1, bs =>
    if bs = [] then some []
    else
      let h := leNat (sliceBytes bs 0 8)
      let nw := bitsOf h 32 10
      let len := 8 + ceilDiv nw 2 * 8
      if bitsOf h 24 2 = 3 ∨ nw = 0 ∨ h % 4 ≠ 0 ∨ bs.length < len then none
      else
        let r : CfgRec := { reg := bitsOf h 0 24, stage := bitsOf h 24 2, pages := max 1 (bitsOf h 42 12),
                            words := (List.range nw).map (fun j => BitVec.ofNat 32 (leNat (sliceBytes bs (8 + 4 * j) 4))) }
        (cfgRecords n (bs.drop len)).map (fun rs => r :: rs)

def cfgBodyLen (hdr : List Byte) : Nat := leNat (sliceBytes hdr 12 4)

-- DEDUCED (notes/assumptions/62.md)
/-- MAGIC, FORMAT and BODY_LEN are as R475 states. -/
def cfgHeaderOk (hdr : List Byte) : Bool :=
  leNat (sliceBytes hdr 0 4) == 0x4E444346 && leNat (sliceBytes hdr 4 1) == 1 && cfgBodyLen hdr % 8 == 0 &&
    decide (cfgBodyLen hdr ≤ 262112)

/-- The body's records, where the CRC matches and they end exactly at its end. -/
def cfgParse (hdr body : List Byte) : Option (List CfgRec) :=
  if leNat (sliceBytes hdr 16 4) = crc32cOf body then cfgRecords (body.length / 8) body else none

-- DEDUCED (notes/assumptions/62.md)
/-- The checks of CFG_SAVE on an image that the steward has read. -/
def cfgImageOk (image : List Byte) (len : Nat) : Bool :=
  let hdr := sliceBytes image 0 32
  cfgHeaderOk hdr && decide (32 + cfgBodyLen hdr ≤ len) && (cfgParse hdr (sliceBytes image 32 (cfgBodyLen hdr))).isSome

/-- The copy to write and the SEQ it takes. -/
def Block.cfgNext (b : Block) : Nat × Nat :=
  let use := b.g pgLG LG_CFG_STAT_IN_USE
  if use = 3 then (0, 1) else (1 - use, (b.g pgLG LG_CFG_SEQ_SEQ + 1) % 2 ^ 32)

def cfgValid (copy : Nat) : Fld := if copy = 0 then LG_CFG_STAT_A_VALID else LG_CFG_STAT_B_VALID

-- DESIGN CHOICE (notes/assumptions/63.md)
/-- Write the image whole into the copy that is not in use, and read it back. -/
def Sys.cfgWrite (w : Sys) (image : List Byte) (readBackOk : Bool) : Sys :=
  let q := w.blk.cfgNext
  let len := 32 + cfgBodyLen image
  let bytes := sliceBytes image 0 8 ++ leBytes 4 q.2 ++ sliceBytes image 12 (len - 12)
  if readBackOk then
    (w.write (cfgAddr q.1) bytes).upd (fun b =>
      (((b.s pgLG LG_CFG_SEQ_SEQ q.2).s pgLG LG_CFG_STAT_IN_USE q.1).s pgLG (cfgValid q.1) 1).mboxDone mbOK [(4, q.2), (5, q.1)])
  else
    let f := w.blk.fresh
    (({ w with blk := f.2 } : Sys).write (cfgAddr q.1) (leBytes len f.1)).upd (fun b =>
      ((b.s pgLG (cfgValid q.1) 0).raise (srcLG 0) clLEDGER 1).mboxDone mbLEDGER [])

/-- `image` is what the reads of the host's image returned; none where one ended with a status other than OK. -/
def Sys.mboxCfgSave (w : Sys) (image : Option (List Byte)) (readBackOk : Bool) : Sys :=
  let len := w.blk.mArg 2
  if hostRange (w.blk.hostAddr 0) (max 1 len) = false ∨ len < 32 ∨ 262144 < len ∨ len % 8 ≠ 0 then w.upd (fun b => b.mboxDone mbARG [])
  else match image with
    | none => w.upd (fun b => b.mboxDone mbHOST [])
    | some im => if cfgImageOk (sliceBytes im 0 len) len then w.cfgWrite im readBackOk else w.upd (fun b => b.mboxDone mbCRC [])

-- DESIGN CHOICE (notes/assumptions/63.md)
def Sys.mboxCfgErase (w : Sys) : Sys :=
  if w.blk.mArg 0 = 0xE2A5 then
    ((w.write (cfgAddr 0) (List.replicate 32 0)).write (cfgAddr 1) (List.replicate 32 0)).upd (fun b => b.mboxDone mbOK [])
  else w.upd (fun b => b.mboxDone mbARG [])

/-! ### EPOCH_REBUILD, ISOLATE, RETURN (R493; 12 R371-R373) -/

def Block.mboxRebuild (b : Block) : Block := b.askChange (.mailbox 4)

/-- In the safe state only steps 1 and 2 of R371 are taken. -/
def Block.mboxIsolate (b : Block) : Block :=
  let kind := b.mArg 0
  let id := b.mArg 1
  if objectOk kind id = false then b.mboxDone mbARG []
  else if b.isolated kind id then b.mboxDone mbOK []
  else if b.safe then (b.cutOff kind id).mboxDone mbOK []
  else b.isolate kind id (.mailbox 5)

/-- The paths of a returned object are re-trimmed (14 R442). -/
def Block.retrimObject (b : Block) (kind id : Nat) : Block :=
  if kind = 0 then
    let e := linkEnd id
    (b.retrimPath e.1 e.2).retrimPath ((neighbour e.1 e.2).getD 0) (opposite e.2)
  else if kind = 1 then b.retrimNode id
  else (attachments id).foldl (fun b q => b.retrimPath q.1 (4 + q.2)) b

-- DEDUCED (notes/assumptions/64.md)
/-- A PROBE that fails leaves the object isolated. -/
def Block.mboxReturn (b : Block) (probeOk : Bool) : Block :=
  let kind := b.mArg 0
  let id := b.mArg 1
  if objectOk kind id = false then b.mboxDone mbARG []
  else if probeOk = false then b.mboxDone mbEPOCH []
  else ((b.returnPorts kind id).retrimObject kind id).askChange (.mailbox 6)

/-! ### RECORDS_READ and NOISE_READ (R493) -/

def Sys.mboxRecords (w : Sys) : Sys :=
  let kind := w.blk.mArg 0
  let a := w.blk.hostAddr 1
  let len := if kind = 0 then 768 else 32768
  if 1 < kind ∨ hostRange a len = false then w.upd (fun b => b.mboxDone mbARG [])
  else
    let r := w.read (if kind = 0 then testRecAddr 0 else repairMapAddr) len
    r.2.2.2.upd (fun b => b.hostSend a r.1)

/-- The samples are the noise source's: free bits. -/
def Block.mboxNoise (b : Block) : Block :=
  let n := b.mArg 2
  if b.lcState ≠ lcBUILD ∨ b.lcInvalid = true then b.mboxDone mbSTATE []
  else if n < 1024 ∨ 1048576 < n ∨ n % 1024 ≠ 0 ∨ hostRange (b.hostAddr 0) (n / 8) = false then b.mboxDone mbARG []
  else
    let f := b.fresh
    f.2.hostSend (b.hostAddr 0) (leBytes (n / 8) f.1)

/-! ### LC_PREPARE (R487, R488; 08 R246, R248) -/

def lcKeyed (t : Nat) : Bool := t == lcSEAL || t == lcSERVICE

/-- The changes of R487. -/
def lcChange (from' nxt : Nat) : Bool :=
  (from' == lcBLANK && nxt == lcBUILD) || (from' == lcBUILD && nxt == lcSEAL) || (from' == lcSEAL && nxt == lcSERVICE) ||
  (from' == lcSERVICE && nxt == lcRETURN) || (from' == lcRETURN && nxt == lcSEAL) || (from' != lcEND && nxt == lcEND)

/-- The keys of the first of at most three generations that passes the health tests (08 R246). -/
def keysFrom (noise : List (BitVec 2048)) : Option Keys :=
  ((noise.take 3).find? noiseHealthy).map (fun s =>
    let seed := conditioned s 1
    { hmac := conditioned s 0, seed := seed, pub := edPublic seed })

/-- The preparation is recorded, and the command completes. -/
def Block.prepared (b : Block) (t : Nat) : Block :=
  let b := { b with lc := { b.lc with target := some t, preparing := none } }
  ((b.s pgTOP TOP_LC_STATE_PREPARED 1).s pgTOP TOP_LC_STATE_TARGET t).mboxDone mbOK
    [(4, match b.evl.nextKeys with | some k => keyIdOf k.pub | none => 0)]

-- DEDUCED (notes/assumptions/60.md)
/-- Step 2 of R248 is skipped, and with it step 3: there is nothing to hand over or to drain. -/
def Block.skipHandover (b : Block) (t : Nat) : Block :=
  let due := if b.evl.due = some ckHANDOVER then none else b.evl.due
  ({ b with lc := { b.lc with handed := true }, evl := { b.evl with handover := 0, due := due } }).prepared t

-- DEDUCED (notes/assumptions/60.md)
/-- Steps 1 and 2 of R248, with the new keys where the new state is keyed. -/
def Block.startPrepare (b : Block) (t : Nat) (k : Option Keys) : Block :=
  let b := { b with evl := { b.evl with nextKeys := k }, lc := { b.lc with preparing := some t } }
  let b := b.s pgEVL EVL_STATUS_KEY_STATE (if b.evl.keys.isSome then 2 else 0)
  if b.logActive then { b with evl := { b.evl with due := some ckHANDOVER } } else b.skipHandover t

def Block.lcWanted (b : Block) : Nat := bitsOf (b.mArg 0) 0 8

/-- Why LC_PREPARE is refused before it generates keys. -/
def Block.prepareRefuses (b : Block) : Option Nat :=
  if b.allSlotsIdle = false ∨ b.lc.target.isSome = true then some mbSTATE
  else if lcChange b.lcState b.lcWanted = false then some mbARG
  else none

-- DEDUCED (notes/assumptions/65.md)
/-- LC_PREPARE, with the samples that the noise source gives each generation. -/
def Block.mboxPrepare (b : Block) (noise : List (BitVec 2048)) : Block :=
  match b.prepareRefuses with
  | some r => b.mboxDone r []
  | none =>
    if lcKeyed b.lcWanted then
      match keysFrom noise with
      | some k => b.startPrepare b.lcWanted (some k)
      | none => ((b.s pgEVL EVL_STATUS_KEY_STATE 3).raise (srcEVL 1) clSEC 2 noSrc).mboxDone mbKEYGEN []
    else b.startPrepare b.lcWanted none

/-- LC_PREPARE by a register write: where keys are wanted the crypto engine generates them, and the command waits. -/
def Block.mboxPrepareBegin (b : Block) : Block :=
  if b.prepareRefuses.isNone && lcKeyed b.lcWanted then
    { b.s pgEVL EVL_STATUS_KEY_STATE 1 with stw := { b.stw with waits := true } }
  else b.mboxPrepare []

/-- EVL_TAIL has reached EVL_HEAD after the hand-over checkpoint, or the log has been disabled meanwhile. -/
def Block.prepareDrained (b : Block) : Block :=
  match b.lc.preparing with
  | some t =>
    if b.lc.handed then (if b.evlHeld = 0 ∨ b.logActive = false then b.prepared t else b)
    else if b.logActive then b else b.skipHandover t
  | none => b

/-! ### The commands -/

/-- Carry out a command that takes nothing from outside; one that does waits for it. -/
def Sys.mboxRun (v : Word) (w : Sys) : Sys :=
  match bitsOf v.toNat 0 8 with
  | 1 => w.mboxResync
  | 3 => w.mboxCfgErase
  | 4 => w.upd Block.mboxRebuild
  | 5 => w.upd Block.mboxIsolate
  | 7 => w.mboxRecords
  | 9 => w.upd Block.mboxNoise
  | 2 => w.upd (fun b => { b with stw := { b.stw with waits := true } })
  | 6 => w.upd (fun b => { b with stw := { b.stw with waits := true } })
  | 8 => w.upd Block.mboxPrepareBegin
  | _ => w.upd (fun b => b.mboxDone mbUNKNOWN [])

/-- A register write of `v` to STW_MBOX_CMD. -/
def Sys.mboxWrite (w : Sys) (v : Word) (mg : Nat) : Sys := w.mboxCmd v mg (Sys.mboxRun v)

/-- The word of a row's command names that command. -/
def mboxIs (code : Nat) (v : Word) (f : Sys → Sys) (w : Sys) : Sys := if bitsOf v.toNat 0 8 = code then f w else w

def execResync (v : Word) (mg : Nat) (s : State) : Host.Outcome State Fault Refusal :=
  run (mboxIs 1 v (fun w => w.mboxCmd v mg Sys.mboxResync)) s
def execCfgSave (v : Word) (mg : Nat) (image : Option (List Byte)) (readBackOk : Bool) (s : State) : Host.Outcome State Fault Refusal :=
  run (mboxIs 2 v (fun w => w.mboxRow v mg (fun w => w.mboxCfgSave image readBackOk))) s
def execCfgErase (v : Word) (mg : Nat) (s : State) : Host.Outcome State Fault Refusal :=
  run (mboxIs 3 v (fun w => w.mboxCmd v mg Sys.mboxCfgErase)) s
def execEpochRebuild (v : Word) (mg : Nat) (s : State) : Host.Outcome State Fault Refusal :=
  run (mboxIs 4 v (fun w => w.mboxCmd v mg (Sys.upd Block.mboxRebuild))) s
def execIsolate (v : Word) (mg : Nat) (s : State) : Host.Outcome State Fault Refusal :=
  run (mboxIs 5 v (fun w => w.mboxCmd v mg (Sys.upd Block.mboxIsolate))) s
def execReturnObject (v : Word) (mg : Nat) (probeOk : Bool) (s : State) : Host.Outcome State Fault Refusal :=
  run (mboxIs 6 v (fun w => w.mboxRow v mg (Sys.upd (fun b => b.mboxReturn probeOk)))) s
def execRecordsRead (v : Word) (mg : Nat) (s : State) : Host.Outcome State Fault Refusal :=
  run (mboxIs 7 v (fun w => w.mboxCmd v mg Sys.mboxRecords)) s
def execLcPrepare (v : Word) (mg : Nat) (noise : List (BitVec 2048)) (s : State) : Host.Outcome State Fault Refusal :=
  run (mboxIs 8 v (fun w => w.mboxRow v mg (Sys.upd (fun b => b.mboxPrepare noise)))) s
def execLcPrepareDrained (s : State) : Host.Outcome State Fault Refusal := runB Block.prepareDrained s
def execNoiseRead (v : Word) (mg : Nat) (s : State) : Host.Outcome State Fault Refusal :=
  run (mboxIs 9 v (fun w => w.mboxCmd v mg (Sys.upd Block.mboxNoise))) s

/-- Codes outside 1-9. -/
def execMboxUnknown (v : Word) (mg : Nat) (s : State) : Host.Outcome State Fault Refusal :=
  run (fun w => if 1 ≤ bitsOf v.toNat 0 8 ∧ bitsOf v.toNat 0 8 ≤ 9 then w
    else w.mboxCmd v mg (Sys.upd (fun b => b.mboxDone mbUNKNOWN []))) s

end Sys2Proof.Machine
end

