-- ==== Sys2Proof/Machine/LifeCycle.lean ====
section
/-! DEFINITION. The life-cycle: INVALID and its end, the adoption of a prepared state with its wipe, and the commands LC_INVALID and
LC_VALID_RETURN (16 R485-R490; 08 R245-R248; 11 R346-R348). LC_ADOPT is in Machine/Crozier.lean, since a crozier follows it. -/
namespace Sys2Proof.Machine

/-! ### INVALID (R486) -/

/-- The state becomes INVALID: no key is used, and the log counts what it omits. -/
def Block.becomeInvalid (b : Block) : Block :=
  ((((b.s pgTOP TOP_LC_STATE_INVALID 1).s pgTOP TOP_LC_STATE_STATE lcEND).useKeys none)).raise srcTOP clSEC 2 noSrc

/-- The recorded state is in force again under its key, and the EVL forms a GAP for what INVALID omitted. -/
def Block.becomeValid (b : Block) : Block :=
  let b := (b.s pgTOP TOP_LC_STATE_INVALID 0).s pgTOP TOP_LC_STATE_STATE b.lc.recorded
  let b := b.useKeys (if lcKeyed b.lc.recorded then b.evl.curKeys else none)
  if b.logActive then
    let g := b.evl.gap.getD (b.emptyGap gapINVALID)
    { b.s pgEVL EVL_STATUS_GAP_OPEN 1 with evl := { b.evl with gap := some { g with reason := gapINVALID } } }
  else b

-- DESIGN CHOICE (notes/assumptions/91.md)
/-- 1 ms of an unexpected code on LC[7:0]. -/
def Block.lcPins (b : Block) (pins : BitVec 8) : Block :=
  if b.pins.porst = false ∨ pins.toNat = b.lc.recorded ∨ (b.lc.target = some pins.toNat ∧ b.lcInvalid = false) then b
  else
    let b := { b with pins := { b.pins with lc := pins } }
    if b.lcInvalid then b else (b.advance oneMs).becomeInvalid

-- DESIGN CHOICE (notes/assumptions/91.md)
def execLcInvalid (pins : BitVec 8) (s : State) : Host.Outcome State Fault Refusal := runB (fun b => b.lcPins pins) s

/-- LC[7:0] shows the recorded state again. -/
def Block.lcReturns (b : Block) : Block :=
  if b.pins.porst = false then b
  else
    let b := { b with pins := { b.pins with lc := BitVec.ofNat 8 b.lc.recorded } }
    if b.lcInvalid then b.becomeValid else b

def execLcValidReturn (s : State) : Host.Outcome State Fault Refusal := runB Block.lcReturns s

/-! ### The checkpoint ring (08 R245) -/

/-- Read the ring's slots; the answer is the checkpoint with the greatest CHAIN_CTR whose TAG verifies, with its slot. -/
def Sys.ringNewest (w : Sys) (key : List Byte) : Option (Nat × List Byte) × Sys :=
  (List.range 64).foldl (fun (q : Option (Nat × List Byte) × Sys) s =>
    let r := q.2.read (ringAddr s) 256
    let good := r.2.1 != stPOISON && leNat (r.1.take 1) == tyCHECKPOINT && hmac key (r.1.take 0xE0) == r.1.drop 0xE0
    let best := match q.1 with
      | some t => if recCtr t.2 < recCtr r.1 then some (s, r.1) else some t
      | none => some (s, r.1)
    (if good then best else q.1, r.2.2.2)) (none, w)

/-! ### Adoption (R489; 08 R248 steps 4-6; 11 R348) -/

/-- Memory ranges that a life-cycle change overwrites: all but the boot ROM and, in the ledger, the repair map, the self-test records
and the wear records. -/
def lcWiped : List (Nat × Nat) :=
  porstWiped.map (fun r => (regionBase r, regionBase r + regionSize r)) ++
  [(ledgerAddr, ledgerAddr + 0x80000), (ledgerAddr + 0x88300, ledgerAddr + 0x90000), (ledgerAddr + 0x120000, ledgerAddr + 0x400000)]

/-- A word that has failed its read-back twice: its row is soft-repaired, and again while it fails; false where no spare row is left (11 R349). -/
def Sys.repairUntil (w : Sys) (a : Nat) : Nat → Sys × Bool
  | 0 => (w, true)
  | n + 1 =>
    match regionOf a with
    | none => (w, false)
    | some r =>
      let q := w.softRepair (deep 2) a r
      if q.2 then (q.1.upd (fun b => b.raise (memSource r) clMEMCE 1 r)).repairUntil a n else (q.1, false)

/-- The words that fail their read-back: a first failure is mended by rewriting the word (11 R349). -/
def Sys.mendWipe (w : Sys) (fails : List (Nat × Nat)) : Sys × Bool :=
  fails.foldl (fun q x => if q.2 then q.1.repairUntil (wordOf x.1) (x.2 - 1) else q) (w, true)

-- DEDUCED (notes/assumptions/65.md)
/-- The sori and node buffers under the life-cycle wipe: no staged entry and no flit is left. -/
def Block.wipeFabric (b : Block) : Block :=
  let b := (List.range 17).foldl (fun b j => b.wipedRegion (14 + j)) b
  let b := { b with nis := b.nis.map (fun q => (q.1, { q.2 with recs := q.2.recs.map (fun r => (r.1, { r.2 with entries := [] })) })) }
  (List.range 112).foldl (fun b n => (b.flushNode n 0).flushNode n 1) b

/-- The life-cycle wipe (11 R348), with the retention store's images: every word overwritten and read back, then its flags cleared. -/
def Sys.lcWipe (w : Sys) (fails : List (Nat × Nat)) : Sys × Bool :=
  let w := w.upd (fun b => { b with mm := { b.mm with lcWipe := true } })
  let w := w.emit (lcWiped.map (fun q => .wipe q.1 q.2))
  let w := w.upd (fun b =>
    let b := (porstWiped.foldl (fun b r => b.wipedRegion r) b).wipeFabric
    let gone (a : Nat) : Bool := lcWiped.any (fun q => decide (q.1 ≤ a) && decide (a < q.2))
    let b := { b with
      mm := { b.mm with poison := b.mm.poison.filter (fun q => !gone q.1), repeats := b.mm.repeats.filter (fun e => !gone e.addr),
                        backs := b.mm.backs.filter (fun a => !gone a) },
      pm := { b.pm with images := [], winImages := [] } }
    (List.range 26).foldl (fun b d => b.s pgPM (PM_DOMAIN_IMG_VALID d) 0) b)
  let r := w.mendWipe fails
  (r.1.upd (fun b => { b with mm := { b.mm with lcWipe := false } }), r.2)

def lifecycleBody (from' nxt : Nat) (pub : List Byte) (handover : Nat) : List Byte :=
  recBody [(0x40, leBytes 1 from' ++ leBytes 1 nxt), (0x48, sliceBytes pub 0 32), (0x68, leBytes 8 handover)]

/-- The EVL starts the new chain: LIFECYCLE as CHAIN_CTR 0 and the ANCHOR checkpoint under the new key. -/
def Sys.newChain (w : Sys) (nxt handover : Nat) (tag : List Byte) (anchorOk : Bool) : Sys :=
  let w := w.upd (fun b =>
    let b := b.resetPage pgEVL
    let new := if lcKeyed nxt then b.evl.nextKeys else none
    let b := { b with evl := { queue := b.evl.queue, lost := b.evl.lost, booted := b.evl.booted, curKeys := new, lastMac := tag },
                      lc := { b.lc with powerEpoch := 0, handed := false } }
    ((b.s pgLG LG_EPOCH_EPOCH 0).s pgLG LG_EPOCH_SAT 0).useKeys new)
  let pub := (w.blk.evl.keys.map (fun k => k.pub)).getD []
  (w.formRecord tyLIFECYCLE (lifecycleBody w.blk.lc.recorded nxt pub handover)).formCheckpoint ckANCHOR [] anchorOk

-- DEDUCED (notes/assumptions/65.md)
/-- Adopt the prepared state `t`; false where it is refused. A word that no spare row can mend leaves the device in its state, with its
memories and the current-key slot wiped. A change into LC_BUILD writes every self-test record NOT_RUN (14 R429). -/
def Sys.adopt (w : Sys) (t handover : Nat) (tag : List Byte) (c : WipeCheck) : Sys × Bool :=
  let q := w.lcWipe c.fails
  let w := q.1
  if q.2 then
    let w := if t = lcBUILD then w.emit [.wipe (ledgerAddr + 0x88000) (ledgerAddr + 0x88300)] else w
    ((w.newChain t handover tag c.anchorOk).upd (fun b =>
      let b := { b with lc := { b.lc with recorded := t, target := none, preparing := none } }
      (((b.s pgTOP TOP_LC_STATE_PREPARED 0).s pgTOP TOP_LC_STATE_TARGET 0).s pgTOP TOP_LC_STATE_INVALID 0).s
        pgTOP TOP_LC_STATE_STATE t), true)
  else (w.upd (fun b => { b with evl := { b.evl with curKeys := none } }.raise (srcSTW 2) clSEC 2 noSrc), false)

end Sys2Proof.Machine
end

