-- ==== Sys2Proof/Machine/Sinks.lean ====
section
/-! DEFINITION. The sink watchdog and LP_PWR_OK: the commands SINK_WDOG_EXPIRY to LP_PWR_OK_RISE (09 R274-R277, R283; 03 R83). -/
namespace Sys2Proof.Machine

/-! ### Declaring an endpoint stuck (R275, R276) -/

/-- The soonest of some instants. -/
def soonest : List Nat → Option Nat
  | [] => none
  | t :: ts => some (match soonest ts with | some u => min t u | none => t)

/-- The elapsed instants at which what waits on a channel toward the endpoint of NI `i` was ready to be offered, or, for cause 5, at which
the endpoint accepted what it owes an answer (R274, R299). -/
def Block.offerings (b : Block) (i cause : Nat) : List Nat :=
  let x := b.ni i
  let mail (p : Packet) : Bool := isHostPort i && p.opc == oMSG
  match cause with
  | 1 => (x.rx.filter (fun p => p.forEndpoint && !mail p)).map (fun p => p.since) ++ x.msi.map (fun m => m.since)
  | 2 => x.ended.filterMap (fun t => t.rsp.map (fun r => r.since)) ++ x.txns.filterMap (fun t => t.rsp.map (fun r => r.since))
  | 3 => (having 4 (fun k => (x.crec k).load == 2)).map (fun k => (x.crec k).loadAt)
  | 4 => (x.msgq ++ x.rx.filter mail).map (fun p => p.since)
  | 5 => x.toEnd.map (fun p => p.since)
  | _ => []

/-- Since when the beat that the NI offers on a channel has not passed, or the oldest request has had no response: any beat that passes
restarts its channel's count (R274). -/
def Block.offered (b : Block) (i cause : Nat) : Option Nat :=
  (soonest (b.offerings i cause)).map (fun t => if cause = 5 then t else max t (AMap.get 0 (b.ni i).passed cause))

/-- Everything that the NI holds for its endpoint is discarded; held requests are answered STUCK, and the transactions of responses marked
to end ABORTED, their tags and space free (R272, R275). -/
def Block.dropHeld (b : Block) (i : Nat) : Block :=
  let x := b.ni i
  let mine := x.rx.filter Packet.forEndpoint
  let rsps := x.rx.filter (fun p => isResponse p.opc)
  let ready := x.txns.filter (fun t => t.rsp.isSome)
  let mark (t : Txn) : Txn := { t with stuck := true, space := 0, rsp := some (abortRsp t 0) }
  let b := b.modNi i (fun x => { x with
    rx := x.rx.filter (fun p => !p.forEndpoint && !isResponse p.opc), toEnd := [], msgq := [], msi := [],
    txns := x.txns.filter (fun t => t.rsp.isNone), ended := x.ended.map mark ++ ready.map mark })
  let b := b.count (pgCntNi i) cRX_DISCARD (mine.length + x.msgq.length + (ready.filter (fun t => t.injected)).length)
  let b := ((mine ++ x.msgq ++ x.toEnd).filter (fun p => p.opc != oWRP)).foldl (fun b p => b.sendResponse i p stSTUCK []) b
  rsps.foldl (fun b p => b.takeResponse i p) b

/-- A shadow load that waits or is in progress is abandoned; one that was in progress leaves entries that LP_DISCARD must clear. -/
def Block.abandonLoads (b : Block) (i : Nat) : Block :=
  let b := (List.range 4).foldl (fun b k =>
    let l := (b.crec i k).load
    if l = 1 ∨ l = 2 then b.modRec i k (fun r => { r with load := 4, begun := l == 2 }) else b) b
  b.showShadow i

def Block.markStuck (b : Block) (i cause : Nat) : Block :=
  let p := pgNi i
  let b := ((b.s p NI_SINK_WDOG_STUCK 1).s p NI_SINK_WDOG_CAUSE cause).bump p NI_SINK_WDOG_EPISODES
  let b := b.dropHeld i
  if isLoopNi i then b.abandonLoads i else b

/-- 2 µs in 1/256 ns (R274). -/
def sinkLimit : Nat := 2000 * 256

-- DEDUCED (notes/assumptions/68.md)
/-- The watchdog declares the endpoint stuck 2 µs after the offer that has not passed. -/
def Block.sinkExpiry (b : Block) (i cause : Nat) : Block :=
  if b.niUp i && !b.stuck i then
    match b.offered i cause with
    | some t => (((b.until (t + sinkLimit)).markStuck i cause).raise (srcNi i 1) clENDPOINT 1)
    | none => b
  else b

def execSinkWdogExpiry (ni cause : Nat) (s : State) : Host.Outcome State Fault Refusal :=
  need (isNi ni) (runB (fun b => b.sinkExpiry ni cause) s)

/-! ### Ending the stuck state (R277) -/

/-- The stuck state ends: the NI now offers ABORTED for the marked transactions, and after them what else it holds. -/
def Block.endStuck (b : Block) (i : Nat) : Block :=
  let p := pgNi i
  ((b.s p NI_SINK_WDOG_STUCK 0).s p NI_SINK_WDOG_CAUSE 0).modNi i (fun x => { x with
    ended := x.ended.map (fun t => if t.stuck then { t with rsp := some (abortRsp t b.elapsed) } else t) })

/-- A write of NI_SINK_WDOG.RESUME. -/
def Block.sinkResume (b : Block) (i : Nat) : Block :=
  if b.niUp i && b.stuck i && !b.lpDown i then b.endStuck i else b

def execSinkResume (ni : Nat) (s : State) : Host.Outcome State Fault Refusal :=
  need (isNi ni) (runB (fun b => b.sinkResume ni) s)

/-! ### LP_PWR_OK (R283) -/

def Block.setPwr (b : Block) (i : Nat) (v : Bool) : Block :=
  { b with pins := { b.pins with lpPwr := having 192 (fun j => if j = i then v else b.pins.lpPwr.contains j) } }

def Block.pwrFall (b : Block) (i : Nat) : Block :=
  if b.lpPwr i = false then b
  else
    let was := b.stuck i
    let b := b.setPwr i false
    if b.niUp i = false then b
    else
      let b := if was then b.s (pgNi i) NI_SINK_WDOG_CAUSE 6 else b.markStuck i 6
      b.raise (srcNi i 1) clENDPOINT 1

def execLpPwrOkFall (ni : Nat) (s : State) : Host.Outcome State Fault Refusal :=
  need (isLoopNi ni) (runB (fun b => b.pwrFall ni) s)

def Block.pwrRise (b : Block) (i : Nat) : Block :=
  if b.lpPwr i then b
  else
    let b := b.setPwr i true
    if b.niUp i then b.endStuck i else b

def execLpPwrOkRise (ni : Nat) (s : State) : Host.Outcome State Fault Refusal :=
  need (isLoopNi ni) (runB (fun b => b.pwrRise ni) s)

end Sys2Proof.Machine
end

