-- ==== Sys2Proof/Machine/PageAccess.lean ====
section
/-! DEFINITION. A write to a register page: access codes, locks, the fields with rules of their own, and what the write starts
(00 R9; 05 R116; 18 R519-R528; and the register tables of every chapter). Machine/Crozier.lean adds the TOP soft reset, which
restarts the block. -/
namespace Sys2Proof.Machine

/-- Who writes: the master group, the SRC that events name (R546), whether SO fields take the write (R9), whether it came through the
service port, and whether it is the crozier's configuration, which fills rule sets before any is in use (10 R322). -/
structure Writer where
  mg : Nat
  src : Nat
  so : Bool := false
  service : Bool := false
  setup : Bool := false

/-! ### Access codes and locks (R9, R527) -/

/-- A word after a write of `v`: what each field's access code makes of it. -/
def storeWord (fs : List FieldD) (so : Bool) (old v : Nat) : Nat :=
  fs.foldl (fun n f =>
    let x := bitsOf v f.lo f.w
    match f.acc with
    | .rw | .rws => putBits n f.lo f.w x
    | .so | .sos => if so then putBits n f.lo f.w x else n
    | .w1c => putBits n f.lo f.w (bitsOf n f.lo f.w &&& ((2 ^ f.w - 1) ^^^ x))
    | .ro | .w1s | .wo => n) old

def Acc.lockable (a : Acc) : Bool := a == .rw || a == .rws

/-- `v` with the bits of RW and RWS fields as they are stored. -/
def keepLocked (fs : List FieldD) (old v : Nat) : Nat :=
  fs.foldl (fun n f => if f.acc.lockable then putBits n f.lo f.w (bitsOf old f.lo f.w) else n) v

-- DEDUCED (notes/assumptions/73.md)
/-- Is page `p` locked against this writer? -/
def Block.locks (b : Block) (k : Writer) (p : Nat) : Bool := b.on p PG_LOCK_LOCK && k.mg != 14 && !k.so

/-- The word that a locked page takes in place of `v`; none where every field is locked. A change that the lock keeps out sets REFUSED. -/
def Block.throughLock (b : Block) (k : Writer) (p off : Nat) (v : Word) : Option Word × Block :=
  let fs := fieldsAt p off
  if b.locks k p = false then (some v, b)
  else
    let kept := keepLocked fs (b.rd p off).toNat v.toNat
    let b := if kept = v.toNat then b else b.s p PG_CTRL_REFUSED 1
    if fs.all (fun f => f.acc.lockable || f.acc == .ro) then (none, b) else (some (BitVec.ofNat 32 kept), b)

/-- Store `v` by the access codes alone. -/
def Block.store (b : Block) (k : Writer) (p off : Nat) (v : Word) : Block :=
  b.wr p off (BitVec.ofNat 32 (storeWord (fieldsAt p off) k.so (b.rd p off).toNat v.toNat))

/-! ### Two-word fields (R116; 05 R153; 06 R169; 10 R326; 13 R416; 08 R264; 15 R466) -/

/-- Offsets of the lower words of fields that one access may write together. -/
def pairLow (p off : Nat) : Bool :=
  (p == pgCSQ && [0x108, 0x188, 0x208, 0x288].contains off) || (p == pgGT && off == 0x048) || (p == pgPM && off == 0x060) ||
  (p == pgTU && off == 0x054) || (p == pgEVL && off == 0x058) || (p == pgPR && off == 0x048)

-- DEDUCED (notes/assumptions/73.md)
def Block.storePair (b : Block) (k : Writer) (p off : Nat) (lo hi : Option Word) : Block :=
  let b := match lo with | some v => b.store k p off v | none => b
  match hi with | some v => b.store k p (off + 4) v | none => b

/-- Would the access change the field? -/
def Block.pairChanges (b : Block) (p off : Nat) (lo hi : Option Word) : Bool :=
  lo.any (fun v => v != b.rd p off) || hi.any (fun v => v != b.rd p (off + 4))

/-- The nanoseconds written exceed 999,999,999. -/
def badStamp (lo : Option Word) : Bool := lo.any (fun v => !stampOk v.toNat)

def Block.writeReleaseT (b : Block) (k : Writer) (j : Nat) (lo hi : Option Word) : Block :=
  let off := CSQ_RELEASE_T j
  if badStamp lo then (b.s pgCSQ (CSQ_SLOT_WR_REFUSED j) 1).raise (srcCSQ j) clCOMMIT 1 j
  else if b.slotState j = slIDLE ∨ b.slotState j = slOPEN then b.storePair k pgCSQ off lo hi
  else if b.pairChanges pgCSQ off lo hi then b.s pgCSQ (CSQ_SLOT_WR_REFUSED j) 1
  else b

def Block.writeSwapT (b : Block) (k : Writer) (lo hi : Option Word) : Block :=
  if badStamp lo then (b.s pgGT GT_STATUS_WR_REFUSED 1).raise (srcGT 1) clGATE 1 k.src
  else if b.on pgGT GT_STATUS_SWAP_PEND then b.s pgGT GT_STATUS_WR_REFUSED 1
  else b.storePair k pgGT GT_SWAP_T lo hi

def Block.writeWakeTimer (b : Block) (k : Writer) (lo hi : Option Word) : Block :=
  if badStamp lo then (b.s pgPM PM_STATUS_WR_REFUSED 1).raise (srcPM domAO) clPOWER 1 domAO
  else if b.on pgPM PM_WAKE_TIMER_HI_ARMED then b.s pgPM PM_STATUS_WR_REFUSED 1
  else
    let b := b.storePair k pgPM PM_WAKE_TIMER lo hi
    let t := (b.rd pgPM PM_WAKE_TIMER).toNat + b.g pgPM PM_WAKE_TIMER_HI_T * 2 ^ 32
    if b.on pgPM PM_WAKE_TIMER_HI_ARMED = true ∧ nsOfStamp t ≤ b.nowNs then b.wakeTimerFire else b

def Sys.writePair (w : Sys) (k : Writer) (p off : Nat) (lo hi : Option Word) : Sys :=
  if w.blk.locks k p then
    (if w.blk.pairChanges p off lo hi then w.upd (fun b => b.s p PG_CTRL_REFUSED 1) else w)
  else if p = pgCSQ then w.upd (fun b => b.writeReleaseT k ((off - 0x108) / 0x80) lo hi)
  else if p = pgGT then w.upd (fun b => b.writeSwapT k lo hi)
  else if p = pgPM then w.upd (fun b => b.writeWakeTimer k lo hi)
  else if p = pgTU then
    (match hi with | some v => w.writeTod lo v | none => w.upd (fun b => b.storePair k p off lo none))
  else if p = pgEVL then w.upd (fun b => (b.storePair k p off lo hi).drainChecked (b.on pgEVL EVL_DRAIN_EN))
  else w.upd (fun b => (b.storePair k p off lo hi).dumpChecked)

/-! ### One word -/

/-- The header (R523, R526, R527). -/
def Block.writeHeader (b : Block) (k : Writer) (p off : Nat) (v : Word) : Block :=
  let b := b.store k p off v
  if off = 0x008 then (if bit v.toNat 0 then b.shadowDiscard p else b)
  else if off = 0x020 then (if bit v.toNat 0 then b.commitPage p else b)
  else if off = 0x024 then (if bit v.toNat 0 then b.s p PG_LOCK_LOCK 1 else b)
  else b

/-- Words of a route-table bank or NODE_ESC, with the epoch that they belong to (03 R86, R89). -/
def bankOf (off : Nat) : Option Nat :=
  if 0x400 ≤ off ∧ off ≤ 0x4D8 ∨ off = 0x044 then some 0 else if 0x500 ≤ off ∧ off ≤ 0x5D8 ∨ off = 0x048 then some 1 else none

/-- The steward writes a word of a bank; the entries of the word have good parity again. -/
def Block.writeRoute (b : Block) (k : Writer) (n off e : Nat) (v : Word) : Block :=
  if k.so = false then b
  else
    let locked := b.bankLocked n e
    let b := b.writeBank n e off (storeWord (fieldsAt n off) true (b.rd n off).toNat v.toNat)
    if locked || off < 0x400 then b
    else
      let j := (off - (0x400 + 0x100 * e)) / 4
      b.modNode n (fun x => { x with badRt := x.badRt.filter (fun q => q / 4 != 64 * e + j) })

/-- A node page (03 R85-R90; 04 R100-R104; 14 R445, R446). -/
def Block.writeNodePage (b : Block) (k : Writer) (n off : Nat) (v : Word) : Block :=
  let b := b.dueArb n
  match bankOf off with
  | some e => b.writeRoute k n off e v
  | none =>
    if 0x060 ≤ off ∧ off < 0x0F0 then
      if (fieldsAt n off).isEmpty then b
      else if (b.node n).arbAt.isSome then (b.s n NODE_ARB_REFUSED 1).raise (srcNode n 1) clNODE 1
      else b.store k n off v
    else if off = 0x040 ∧ k.so = true then
      let live := bitsOf v.toNat 2 2
      ((b.store { k with so := false } n off v).writeLive n 0 (bit live 0)).writeLive n 1 (bit live 1)
    else if off = 0x050 then (if k.so then b.nodeFlush n (bit v.toNat 8) (bit v.toNat 9) else b)
    else b.store k n off v

/-- Does the word belong to a rule set that is active for NI `i` (10 R318)? -/
def Block.ruleInUse (b : Block) (i off : Nat) : Bool :=
  decide (0x200 ≤ off) && decide (off < 0x400) && b.activeSet i == (off - 0x200) / 0x100

/-- An NI page (09 R296-R302; 10 R324; 15 R464). -/
def Block.writeNiPage (b : Block) (k : Writer) (i off : Nat) (v : Word) : Block :=
  let p := pgNi i
  if off = 0x050 then (if bit v.toNat 1 then b.sinkResume i else b)
  else if off = 0x060 then
    let was := b.g p NI_SAMPLE_MODE
    let b := b.store k p off v
    if bit v.toNat 8 || b.g p NI_SAMPLE_MODE != was then b.sampleClear i else b
  else if b.ruleInUse i off && !k.setup then b
  else b.store k p off v

/-- A bank's page (07 R230-R233). -/
def Sys.writeFsPage (w : Sys) (k : Writer) (n off : Nat) (v : Word) : Sys :=
  if off = 0x044 then
    match bitsOf v.toNat 0 2 with
    | 1 => w.upd (fun b => b.frondSeal n v)
    | 2 => w.frondRetire n v
    | _ => if w.blk.on (pgFs n) FS_STATUS_SEAL_BUSY then w.upd (fun b => b.s (pgFs n) FS_SEAL_RESULT_REFUSED_BUSY 1) else w
  else w.upd (fun b => b.store k (pgFs n) off v)

/-- A word of slot `j` below its outcome (06 R169, R207-R209). -/
def Sys.writeSlotWord (w : Sys) (k : Writer) (j off : Nat) (v : Word) : Sys :=
  if off = 0x100 + 0x80 * j then
    match bitsOf v.toNat 0 2 with
    | 1 => w.csqOpen j v
    | 2 => w.csqLaunch j v
    | 3 => w.csqAbort j v
    | _ => w.upd (fun b => b.writeCtrl j v)
  else w.upd (fun b =>
    let c := b.store k pgCSQ off v
    if b.slotState j = slIDLE then c
    else if c.rd pgCSQ off = b.rd pgCSQ off then b
    else b.s pgCSQ (CSQ_SLOT_WR_REFUSED j) 1)

def Sys.writeCsqPage (w : Sys) (k : Writer) (off : Nat) (v : Word) : Sys :=
  if 0x100 ≤ off ∧ off < 0x300 then w.writeSlotWord k ((off - 0x100) / 0x80) off v
  else if off = 0x050 then (if bit v.toNat 26 then w.upd Block.abortNetTest else w)
  else w.upd (fun b => b.store k pgCSQ off v)

/-- The TU page (05 R150-R162). -/
def Sys.writeTuPage (w : Sys) (k : Writer) (off : Nat) (v : Word) : Sys :=
  if off = 0x060 then
    w.upd (fun b =>
      let b := b.store k pgTU off v
      if b.on pgTU TU_PPS_OUT_EN then b else b.setPpsOut false)
  else if off = 0x064 then w.stepAuthorise v
  else if off = 0x07C then
    w.upd (fun b =>
      let b := b.latticeForceB (bit v.toNat 1)
      if bit v.toNat 0 then b.latticeRevert else b)
  else w.upd (fun b => b.store k pgTU off v)

/-- The FC page (12 R383-R388). -/
def Block.writeFcPage (b : Block) (k : Writer) (off : Nat) (v : Word) : Block :=
  if off = 0x044 then b.faultClear v
  else if off = 0x048 then b.faultAck v
  else if off = 0x050 then b.safeExit v (if k.service || (decide (200 ≤ k.src) && decide (k.src < 204)) then k.mg else 16)
  else b.store k pgFC off v

-- DEDUCED (notes/assumptions/103.md)
/-- EVL_POLICY (08 R253, R262). -/
def Block.writePolicy (b : Block) (v : Word) : Block :=
  let n := v.toNat
  let b :=
    if b.on pgEVL EVL_POLICY_LOCK then b.evlRefused
    else (if bit n 0 then b.logEnable else b.logDisable).s pgEVL EVL_POLICY_EMERGENCY (bitsOf n 1 1)
  let b := b.s pgEVL EVL_POLICY_FULL_WARN (bitsOf n 8 4)
  if bit n 2 then b.s pgEVL EVL_POLICY_LOCK 1 else b

/-- Does the word belong to the host digest of a slot that is not IDLE (08 R266)? -/
def Block.digestHeld (b : Block) (off : Nat) : Bool :=
  decide (0x0A0 ≤ off) && decide (off < 0x120) && b.slotState ((off - 0x0A0) / 0x20) != slIDLE

/-- The EVL page (08 R260-R266). -/
def Block.writeEvlPage (b : Block) (k : Writer) (off : Nat) (v : Word) : Block :=
  if off = 0x044 then b.writePolicy v
  else if off = 0x04C then b.tailRelease v
  else if off = 0x050 then b.drainEnable v
  else if off = 0x068 then (if bit v.toNat 7 then b.checkpointRequest else b)
  else if b.digestHeld off then b
  else b.store k pgEVL off v

/-- The MM page (11 R353-R357). -/
def Block.writeMmPage (b : Block) (k : Writer) (off : Nat) (v : Word) : Block :=
  if off = 0x044 then b.bankWipe v
  else if off = 0x054 then
    let b := b.store k pgMM off v
    if bit v.toNat 4 then b.repeatClear else b
  else if 0x080 ≤ off ∧ off < 0x0FC ∧ (fixedCode ((off - 0x080) / 4) || v.toNat % 4 == 3) = true then b.s pgMM MM_STATUS_WR_REFUSED 1
  else b.store k pgMM off v

/-- The CP page (17 R513). -/
def Sys.writeCpPage (w : Sys) (k : Writer) (off : Nat) (v : Word) : Sys :=
  if off = 0x044 then
    let w := if bit v.toNat 0 then w.anchorInstall k.mg else w
    if bit v.toNat 1 then w.upd Block.startWalk else w
  else if 0x060 ≤ off ∧ off < 0x080 ∧ w.blk.anchorOk k.mg = false then w.upd Block.cpRefused
  else w.upd (fun b => b.store k pgCP off v)

/-- The PR page (15 R466, R467). -/
def Block.writePrPage (b : Block) (k : Writer) (off : Nat) (v : Word) : Block :=
  if off = 0x044 then
    let b := (b.store k pgPR off v).dumpChecked
    if bit v.toNat 3 then b.dumpOneShot else b
  else if off = 0x050 then b.periodDistribute v
  else b.store k pgPR off v

/-- The PM page (13 R414-R420). -/
def Block.writePmPage (b : Block) (k : Writer) (off : Nat) (v : Word) : Block :=
  if off = 0x044 then b.pmRequest v k.service
  else if off = 0x048 then b.portRelease v
  else if off = 0x070 then b.railTargets v
  else if off = 0x074 then (if k.so then b.writeVfloor v else b)
  else if 0x090 ≤ off ∧ off < 0x0A0 then
    let r := (off - 0x090) / 4
    if b.railState r = railCHANGING then b.s pgPM PM_STATUS_WR_REFUSED 1 else (b.store k pgPM off v).autoOff r
  else b.store k pgPM off v

-- DEDUCED (notes/assumptions/88.md)
/-- The refused entries of a written GT_MG_MAP word: those that would be MG14 or MG15 (10 R306). -/
def mapRefused (v k : Nat) : Bool := decide (14 ≤ bitsOf v (4 * k) 4)

-- DEDUCED (notes/assumptions/88.md)
/-- A written GT_MG_MAP word holds a refused entry (10 R306); SRC 204's own entry is
read-only and names MG14 itself, and the entries of SRC 215-223 are reserved (10 R328): neither gives a group. -/
def mapRefuses (off v : Nat) : Bool :=
  (List.range 8).any (fun k => mapRefused v k && decide (2 * (off - 0x080) + k ≠ 204 ∧ 2 * (off - 0x080) + k < 215))

/-- The word a write of `v` leaves in GT_MG_MAP over `old`: a refused entry stays, the others take the write (10 R306). -/
def mapWord (old v : Nat) : Word :=
  BitVec.ofNat 32 ((List.range 8).foldl (fun n k =>
    n + bitsOf (if mapRefused v k then old else v) (4 * k) 4 * 2 ^ (4 * k)) 0)

/-- The GT page (10 R326-R328). -/
def Block.writeGtPage (b : Block) (k : Writer) (off : Nat) (v : Word) : Block :=
  if off = 0x044 then
    let b := if bit v.toNat 0 then b.swapSchedule else b
    if bit v.toNat 1 then b.cancelSwap else b
  else if off = 0x050 then
    if bit v.toNat 17 then b.windowWrite v k.src k.setup
    else if bit v.toNat 16 then b.windowRead v
    else b.writeWinSel v
  else if decide (0x080 ≤ off ∧ off < 0x0EC) then
    let b := if mapRefuses off v.toNat then b.s pgGT GT_STATUS_WR_REFUSED 1 else b
    b.store k pgGT off (mapWord (b.rd pgGT off).toNat v.toNat)
  else b.store k pgGT off v

/-- A word of a page that acts, past its lock. -/
def Sys.writeThrough (w : Sys) (k : Writer) (p off : Nat) (v : Word) : Sys :=
  if off < 0x040 then w.upd (fun b => b.writeHeader k p off v)
  else
    match kindOf p with
    | some .node => w.upd (fun b => b.writeNodePage k p off v)
    | some .niLoop | some .niSys => w.upd (fun b => b.writeNiPage k (instanceOf p) off v)
    | some .fs => w.writeFsPage k (instanceOf p) off v
    | some .csq => w.writeCsqPage k off v
    | some .tu => w.writeTuPage k off v
    | some .fc => w.upd (fun b => b.writeFcPage k off v)
    | some .evl => w.upd (fun b => b.writeEvlPage k off v)
    | some .mm => w.upd (fun b => b.writeMmPage k off v)
    | some .cp => w.writeCpPage k off v
    | some .pr => w.upd (fun b => b.writePrPage k off v)
    | some .pm => w.upd (fun b => b.writePmPage k off v)
    | some .gt => w.upd (fun b => b.writeGtPage k off v)
    | some .stw => if off = 0x044 then w.mboxWrite v k.mg else w.upd (fun b => b.store k p off v)
    | some .lg => w.upd (fun b => b.store k p off v)
    | some .top => w.upd (fun b =>
        let c := b.store k p off v
        if c.on pgTOP TOP_WDOG_EN && !b.on pgTOP TOP_WDOG_EN then { c with stw := { c.stw with wdogAt := c.elapsed } } else c)
    | some .cntNode | some .cntNi | none => w

/-- A word of a page (R520: a reserved offset ignores it). -/
def Sys.writeWord (w : Sys) (k : Writer) (p off : Nat) (v : Word) : Sys :=
  if (fieldsAt p off).isEmpty then w
  else
    let r := w.blk.throughLock k p off v
    let w : Sys := { w with blk := r.2 }
    match r.1 with
    | some v => w.writeThrough k p off v
    | none => w

/-! ### Counter pages (15 R448-R451) -/

/-- A counter word written with `v`. A lock keeps VALUE. -/
def Block.writeCounter (b : Block) (k : Writer) (p off v : Nat) : Block :=
  if counterAt p off = false then b
  else
    let old := (b.counter p off).toNat
    let locked := b.locks k p
    let value := if locked then old % 2 ^ 48 else v % 2 ^ 48
    let b := if locked && v % 2 ^ 48 != old % 2 ^ 48 then b.s p PG_CTRL_REFUSED 1 else b
    let flags := bitsOf old 62 2 &&& (3 ^^^ bitsOf v 62 2)
    b.setCounter p off (BitVec.ofNat 64 (value + flags * 2 ^ 62))

def Sys.writeCounters (w : Sys) (k : Writer) (p : Nat) : Nat → List Word → Sys
  | off, v :: u :: rest =>
    let w := if off < 0x040 then (w.writeWord k p off v).writeWord k p (off + 4) u
      else w.upd (fun b => b.writeCounter k p off (v.toNat + u.toNat * 2 ^ 32))
    w.writeCounters k p (off + 8) rest
  | _, _ => w

/-! ### One access (R521) -/

/-- The words of an access in rising order, PG_COMMIT left out. -/
def Sys.writeList (w : Sys) (k : Writer) (p : Nat) : Nat → List Word → Sys
  | _, [] => w
  | off, [v] =>
    if pairLow p off then w.writePair k p off (some v) none
    else if pairLow p (off - 4) then w.writePair k p (off - 4) none (some v)
    else if off = 0x020 then w
    else w.writeWord k p off v
  | off, v :: u :: rest =>
    if pairLow p off then (w.writePair k p off (some v) (some u)).writeList k p (off + 8) rest
    else if pairLow p (off - 4) then (w.writePair k p (off - 4) none (some v)).writeList k p (off + 4) (u :: rest)
    else if off = 0x020 then w.writeList k p (off + 4) (u :: rest)
    else (w.writeWord k p off v).writeList k p (off + 4) (u :: rest)

/-- The event of an access that met a rule set in use or a digest that is held (10 R318; 08 R258). -/
def Block.ignoredWords (b : Block) (k : Writer) (p off n : Nat) : Block :=
  let offs := (List.range n).map (fun j => off + 4 * j)
  if 0x100 ≤ p ∧ p < 0x1D8 then
    (if !k.setup && offs.any (fun o => b.ruleInUse (p - 0x100) o) then b.raise (srcNi (p - 0x100) 0) clGATE 0 k.src else b)
  else if p = pgEVL then (if offs.any (fun o => b.digestHeld o) then b.evlRefused else b)
  else b

/-- A write access of `words` at `off` of page `p`. The block behind the page is powered. -/
def Sys.writePage (w : Sys) (k : Writer) (p off : Nat) (words : List Word) : Sys :=
  let w := if isCounterPage p then w.writeCounters k p off words else w.writeList k p off words
  let w := w.upd (fun b => b.ignoredWords k p off words.length)
  match (if off ≤ 0x020 then words[(0x020 - off) / 4]? else none) with
  | some v => if isCounterPage p then w else w.writeWord k p 0x020 v
  | none => w

end Sys2Proof.Machine
end

