-- ==== Sys2Proof/Machine/Crozier.lean ====
section
/-! DEFINITION. The crozier: how the block starts after a power-on reset, a fabric reset and a wake of SD, with the commands
SELFTEST_END, WAKE_INCLUDE, POWER_ON_RESET to STW_WDOG_EXPIRY, LC_ADOPT, REGISTER_WRITE, and PORST_RELEASE to PG_MISSING_TIMEOUT
(16 R470-R490; 08 R245, R257; 10 R323; 13 R398, R399; 14 R428, R435, R442). The steps that follow one another without waiting
for the outside are one act (notes/assumptions/52.md). -/
namespace Sys2Proof.Machine

/-! ### Progress -/

def Block.crozierStep (b : Block) (n : Nat) : Block := b.s pgSTW STW_STATUS_STEP n

/-- The crozier stops at step `n` (R484). -/
def Block.crozierHalt (b : Block) (n : Nat) : Block := (b.crozierStep n).s pgSTW STW_STATUS_HALT 1

def Block.halted (b : Block) : Bool := b.on pgSTW STW_STATUS_HALT

/-- The reset pins let the fabric run. -/
def Block.pinsHigh (b : Block) : Bool := b.pins.porst && b.pins.frst

def Block.allPg (b : Block) : Bool := (List.range 4).all (fun r => b.on pgPM (PM_RAIL_STATUS_PG r))

/-! ### Persistent configuration (R475-R480) -/

/-- One copy as the crozier reads it: SEQ and records where it is valid. -/
def Sys.cfgCopy (w : Sys) (copy : Nat) : Option (Nat × List CfgRec) × Sys :=
  let h := w.read (cfgAddr copy) 32
  if cfgHeaderOk h.1 = false ∨ h.2.1 = stPOISON then (none, h.2.2.2)
  else
    let body := h.2.2.2.read (cfgAddr copy + 32) (cfgBodyLen h.1)
    let bs := if cfgBodyLen h.1 = 0 then [] else body.1
    (if body.2.1 = stPOISON then none else (cfgParse h.1 bs).map (fun rs => (leNat (sliceBytes h.1 8 4), rs)), body.2.2.2)

/-- The places of a record's words: page, offset, word. -/
def CfgRec.places (r : CfgRec) : List (Nat × Nat × Word) :=
  (List.range r.pages).flatMap (fun q => r.words.zipIdx.map (fun x =>
    let a := r.reg + 0x1000 * q + 4 * x.2
    (a / 0x1000, a % 0x1000, x.1)))

/-- Does the record touch the STW, the TOP or a counter page, or run beyond page 0x5FF? -/
def CfgRec.skipped (r : CfgRec) : Bool :=
  r.places.any (fun q => q.1 == pgSTW || q.1 == pgTOP || isCounterPage q.1 || decide (0x5FF < q.1))

/-- Does the configuration hold rule sets (10 R323)? -/
def holdsRules (recs : List CfgRec) : Bool :=
  recs.any (fun r => !r.skipped && r.places.any (fun q =>
    (decide (0x100 ≤ q.1) && decide (q.1 < 0x1D8) && decide (0x200 ≤ q.2.1) && decide (q.2.1 < 0x400)) ||
    (q.1 == pgGT && q.2.1 == 0x050)))

/-- Select the newer valid copy, report it in the LG page (R477, R480), and keep its records. -/
def Sys.cfgSelect (w : Sys) : Sys :=
  let a := w.cfgCopy 0
  let b := a.2.cfgCopy 1
  let use := match a.1, b.1 with
    | some x, some y => if (x.1 + 2 ^ 32 - y.1) % 2 ^ 32 < 2 ^ 31 then some (0, x) else some (1, y)
    | some x, none => some (0, x)
    | none, some y => some (1, y)
    | none, none => none
  let w := b.2.upd (fun c => (c.s pgLG LG_CFG_STAT_A_VALID (b2n a.1.isSome)).s pgLG LG_CFG_STAT_B_VALID (b2n b.1.isSome))
  match use with
  | some (k, x) => w.upd (fun c =>
      { (c.s pgLG LG_CFG_STAT_IN_USE k).s pgLG LG_CFG_SEQ_SEQ x.1 with stw := { c.stw with cfg := x.2, bringUp := !holdsRules x.2 } })
  | none => w.upd (fun c =>
      { ((c.s pgLG LG_CFG_STAT_IN_USE 3).s pgLG LG_CFG_SEQ_SEQ 0).raise (srcLG 0) clLEDGER 1 with
        stw := { c.stw with cfg := [], bringUp := true } })

/-- The crozier's configuration writes as MG0 does. -/
def cfgWriter : Writer := { mg := 0, src := noSrc, setup := true }

/-- A configuration word without its W1S, W1C and WO bits, but for GT_WIN_SEL.WRITE (R479). -/
def cfgWord (p off : Nat) (v : Word) : Word :=
  let n := (fieldsAt p off).foldl (fun n f =>
    if f.acc == .w1s || f.acc == .w1c || f.acc == .wo then putBits n f.lo f.w 0 else n) v.toNat
  BitVec.ofNat 32 (if p = pgGT ∧ off = 0x050 then putBits n 17 1 (bitsOf v.toNat 17 1) else n)

def Block.domOn (b : Block) (d : Nat) : Bool := b.domState d == 0 && (b.dom d).up

def Block.cfgSkip (b : Block) : Block := b.bump pgLG LG_CFG_STAT_SKIPPED

/-- Apply one word. -/
def Sys.cfgStore (w : Sys) (p off : Nat) (v : Word) : Sys :=
  let v := cfgWord p off v
  let w := w.writePage cfgWriter p off [v]
  if p = pgGT ∧ off = 0x050 ∧ bit v.toNat 17 = true then w.upd Block.windowDone else w

/-- A word of a stage. Of a domain that is not ON it waits for that domain's wake; `only` names the domain to configure, if not all. -/
def Sys.cfgApply (w : Sys) (only : Option Nat) (p off : Nat) (v : Word) : Sys :=
  let d := domOfPage p
  if isPage p = false then w
  else if w.blk.domOn d then (if only.all (· == d) then w.cfgStore p off v else w)
  else w.upd (fun b => { b.cfgSkip with stw := { b.stw with later := b.stw.later ++ [(p, off, v)] } })

/-- Apply a stage, then PG_COMMIT on every page that it wrote. -/
def Sys.cfgStage (w : Sys) (only : Option Nat) (stage : Nat) : Sys :=
  let rs := w.blk.stw.cfg.filter (fun r => r.stage == stage)
  let w := (rs.filter CfgRec.skipped).foldl (fun (w : Sys) _ => w.upd Block.cfgSkip) w
  let ps := (rs.filter (fun r => !r.skipped)).flatMap CfgRec.places
  let w := ps.foldl (fun w q => w.cfgApply only q.1 q.2.1 q.2.2) w
  let pages := ((ps.map (fun q => q.1)).eraseDups.filter (fun p =>
    isPage p && w.blk.domOn (domOfPage p) && only.all (· == domOfPage p)))
  w.upd (fun b => pages.foldl (fun b p => b.commitPage p) b)

/-! ### Bring-up rules (10 R323) -/

/-- MG0, MG14 and MG15, to read and to write. -/
def bringUpMasks : Word := 0xC001C001

-- DEDUCED (notes/assumptions/70.md)
def Block.bringUpNi (b : Block) (i : Nat) : Block :=
  [0, 1].foldl (fun b s =>
    let put (b : Block) (r base : Nat) : Block :=
      let o := NI_RGN s r
      let p := pgNi i
      (((b.wr p o (BitVec.ofNat 32 base)).wr p (o + 4) 0x1FFFFF00).wr p (o + 8) bringUpMasks).wr p (o + 12) 0xFF01
    let b := put b 0 0
    if isLoopNi i || isHostPort i then put b 1 ((i + 1) * 2 ^ 21) else b) b

-- DEDUCED (notes/assumptions/70.md)
def Block.bringUpNode (b : Block) (n : Nat) : Block :=
  [0, 1].foldl (fun b s => b.setWindow n s 0 { w0 := 0, w1 := 0x7000, w2 := bringUpMasks }) b

def Block.bringUpDom (b : Block) (d : Nat) : Block :=
  (nodesOfDom d).foldl (fun b n => b.bringUpNode n) ((nisOfDom d).foldl (fun b i => b.bringUpNi i) b)

/-! ### Step 3: repair map, cut tests, a prepared adoption (14 R430, R435; R490) -/

/-- How many entries of the repair map from entry `j` on, of at most `n`, come before the first that is zero (14 R433). -/
def Sys.entriesFrom (w : Sys) (j : Nat) : Nat → Nat × Sys
  | 0 => (j, w)
  | n + 1 =>
    let x := w.read (repairMapAddr + 8 * j) 8
    if leNat x.1 = 0 then (j, x.2.2.2) else x.2.2.2.entriesFrom (j + 1) n

def Sys.countRepairs (w : Sys) : Sys :=
  let r := w.entriesFrom 0 4096
  r.2.upd (fun b => (b.s pgLG LG_REPAIR_ENTRIES r.1).s pgLG LG_REPAIR_FULL (b2n (r.1 == 4096)))

/-- Tests that the fabric reset cut short. -/
def Sys.settleCut (w : Sys) : Sys :=
  (List.range 24).foldl (fun (w : Sys) d =>
    match (w.blk.dom d).cut with
    | some p => (w.cutRecord d p).upd (fun b => b.modDom d (fun x => { x with cut := none }))
    | none => w) w

/-- The preparation lapses: the next key is gone and the current one stays in use. -/
def Block.lapse (b : Block) : Block :=
  let b := { b with lc := { b.lc with target := none }, evl := { b.evl with nextKeys := none } }
  (b.s pgTOP TOP_LC_STATE_PREPARED 0).s pgTOP TOP_LC_STATE_TARGET 0

/-- CHAIN_CTR and TAG of the hand-over checkpoint in the ring; zeros where the change was made with the log disabled. -/
def Sys.handoverTag (w : Sys) : (Nat × List Byte) × Sys :=
  let r := w.ringNewest ((w.blk.evl.curKeys.map (fun k => k.hmac)).getD zero32)
  (match r.1 with
   | some (_, x) => if leNat (sliceBytes x 0x4C 1) = ckHANDOVER then (recCtr x, x.drop 0xE0) else (0, zero32)
   | none => (0, zero32), r.2)

/-- After a PORST with a preparation recorded. -/
def Sys.settleAdoption (w : Sys) : Sys :=
  match w.blk.lc.target with
  | none => w
  | some t =>
    if w.blk.evl.booted then w
    else if w.blk.pins.lc.toNat = t then
      let h := w.handoverTag
      (h.2.adopt t h.1.1 h.1.2 w.blk.stw.wipe).1
    else if w.blk.pins.lc.toNat = w.blk.lc.recorded then w.upd Block.lapse
    else w

/-! ### Step 4: domains and arrays -/

/-- Domains that this start brings ON. -/
def Block.startDoms (b : Block) : List Nat := having 24 (fun d => b.domState d == 0)

/-- The arrays of what is powered: banks, the steward's SRAM, sori and node buffers (11 R346). -/
def Sys.wipeStart (w : Sys) (ds : List Nat) : Sys :=
  let rs := ((ds.filter (fun d => 16 ≤ d)).map (fun d => d - 16)) ++ [11, 12] ++ ((ds.filter (fun d => d < 16)).map (fun d => 14 + d)) ++ [30]
  rs.foldl (fun (w : Sys) r => w.wipeRegion r) w

def Sys.powerDoms (w : Sys) : Sys :=
  let ds := w.blk.startDoms
  let w := w.upd (fun b => ds.foldl (fun b d => b.modDom d (fun x => { x with up := true })) b)
  let w := (w.applyRepairs (fun d => w.blk.domOn d)).wipeStart ds
  w.upd (fun b => (having 192 (fun i => b.niUp i)).foldl (fun b i => b.lpDiscard i) b)

/-! ### Step 5: BOOT (08 R241, R245, R257) -/

def Block.bootBody (b : Block) (last : Nat) : List Byte :=
  let kind := if b.evl.booted = false then 1 else if b.g pgTOP TOP_RESET_CAUSE_CAUSE = rcSOFT then 3 else 2
  let id (k : Nat) : Nat := match b.evl.lost.find? (fun q => q.1 == k) with | some q => q.2 | none => 0
  recBody [(0x40, leBytes 1 kind), (0x44, leBytes 4 (b.rd pgTOP 0x044).toNat),
    (0x48, leBytes 1 (maskOf 4 (fun k => b.evl.lost.any (fun q => q.1 == k)))),
    (0x4C, (List.range 4).flatMap (fun k => leBytes 4 (id k))), (0x60, leBytes 8 last)]

-- DESIGN CHOICE (notes/assumptions/16.md)
/-- After a PORST: keys come into use and the chain links to the ring's newest checkpoint. The answer is LAST_CKPT. -/
def Sys.linkRing (w : Sys) : Nat × Sys :=
  let w := w.upd (fun b => if !b.lcInvalid && lcKeyed b.lc.recorded then b.useKeys b.evl.curKeys else b)
  let r := w.ringNewest w.blk.hmacKey
  match r.1 with
  | some (s, x) =>
    (recCtr x, r.2.upd (fun b =>
      let b := (b.s pgEVL EVL_CKPT_NEWEST s).s pgEVL EVL_CKPT_RING_VALID 1
      { b with evl := { b.evl with ringNext := (s + 1) % 64,
                                   lastMac := if b.evl.index = 0 then x.drop 0xE0 else b.evl.lastMac } }))
  | none => (0, r.2)

-- DEDUCED (notes/assumptions/71.md)
-- DESIGN CHOICE (notes/assumptions/16.md)
/-- The BOOT record: at once after a PORST, since no record comes before it; after another reset in its turn (08 R242). -/
def Sys.bootRecord (w : Sys) : Sys :=
  let porst := !w.blk.evl.booted
  let l := if porst then w.linkRing else (0, w)
  let w := l.2
  let body := w.blk.bootBody l.1
  let d : RecData := { typ := tyBOOT, body := body }
  let w := w.upd (fun b =>
    let b := { b with evl := { b.evl with booted := true, lost := [] } }
    if porst ∧ b.evl.timerAt.isNone then { b with evl := { b.evl with timerAt := some (b.elapsed + secUnits) } } else b)
  if !porst then w.upd (fun b => b.pushRec tyBOOT body)
  else if w.blk.canForm d then w.formRecord tyBOOT body
  else w.upd (fun b => b.omitRec d)

/-! ### Step 7: paths, links, cells, VOUT_MODE (14 R442; 05 R145; 13 R409) -/

/-- A cell of a powered node takes a word and measures d on its most preferred source. What d is, is the silicon's. -/
def Block.readyCell (b : Block) (n : Nat) : Block :=
  if b.on pgTU (TU_CELL_READY n) then b
  else
    let s := b.srcOrder.headD 0
    let f := b.fresh
    (f.2.modCell n (fun c => { c with off := some 0, gotWord := true, delays := AMap.set [] c.delays s [f.1 % 65536] })).showCell n s

def Block.readyCells (b : Block) (ns : List Nat) : Block := ns.foldl (fun b n => b.readyCell n) b

/-- The PM reads VOUT_MODE of each rail. One that is not linear is never commanded. -/
def Block.readVoutModes (b : Block) : Block :=
  (List.range 4).foldl (fun b r =>
    let m := b.stw.vout.getD r 0
    let b := { b.s pgPM (PM_RAIL_CFG_VOUT_EXP r) (m % 32) with pm := { b.pm with bus := [(r, 0x20, m % 256)] } }
    if bitsOf m 5 3 = 0 then b
    else (b.s pgPM (PM_RAIL_STATUS_STATE r) railFAULT).modRail r (fun x => { x with fixed := true })) b

def Block.upNodes (b : Block) : List Nat := having 112 (fun n => (b.dom (domOfNode n)).up)

/-- Links and nodes that cannot be enabled are isolated before epoch 0 is computed (R482). -/
def Block.leaveShut (b : Block) : Block :=
  (b.stw.start.paths.filter (fun q => decide (q.1 < 2) && objectOk q.1 q.2)).foldl (fun b q =>
    if b.isolated q.1 q.2 then b else b.cutOff q.1 q.2) b

def Block.openPaths (b : Block) : Block :=
  let ns := b.upNodes
  let b := ns.foldl (fun b n => (b.retrimNode n).retrimPath n 8) b
  ((b.enablePorts (fun _ => true)).leaveShut).readyCells ns

/-! ### Steps 8 and 9: rules and epoch 0 (10 R322, R323; 03 R68) -/

/-- What stage 1 committed comes into use before the first switch. -/
def Block.settleCommits (b : Block) : Block :=
  ((having 112 (fun n => (b.node n).arbAt.isSome)).foldl (fun b n => b.arbActivation n) b).mapActivate

def Block.epochZero (b : Block) : Block :=
  let r := b.routesFor none
  let b := (b.leaveOut (b.strandedNodes none r.live)).writeTables none r 0
  let b := (having 216 (fun i => b.niUp i)).foldl (fun b i => b.modNi i (fun x => { x with bal := AMap.set 0 x.bal 0 0 })) b
  (b.switchEpoch r.live (having 216 (fun i => b.niIn none r.live i)) 0).wr pgSTW 0x070 0

/-- The PROBEs of R482: an NI that fails its own is isolated by an epoch change. -/
def Block.probeStart (b : Block) : Block :=
  let bad := b.probed.filter (fun d => b.stw.start.nis.contains d || b.probeLost 0 d)
  bad.foldl (fun b d => b.isolate 2 d .probe) (b.countProbes (b.probed.filter (fun d => !bad.contains d)))

/-! ### Step 10: tests, budgets, rails (06 R188, R206; 04 R112; 13 R410) -/

/-- Three tests of the abort net, 64 ns apart. -/
def Block.threeTests (b : Block) : Block := (List.range 3).foldl (fun b j => b.testNet (b.elapsed + ns (64 * j))) b

-- DESIGN CHOICE (notes/assumptions/5.md)
/-- The steward computes the budgets and PM_VFLOOR from the speeds that it has measured. -/
def Block.measureSpeeds (b : Block) : Block :=
  let f := b.fresh
  f.2.writeVfloor (BitVec.ofNat 32 f.1)

-- DEDUCED (notes/assumptions/72.md)
def Block.startRails (b : Block) : Block :=
  (List.range 4).foldl (fun b r => if b.railState r = railIDLE then b.startRail r else b) b

/-! ### Step 11: fabric ready (R483) -/

def Block.holdAll (b : Block) : Block := (List.range 16).foldl (fun b d => b.holdPorts d) b

/-- A wake latched during an entry that has ended is replayed with its source. -/
def Block.replayLatched (b : Block) : Block :=
  (List.range 25).foldl (fun b d => b.replayWake d) b

def Block.fabricReady (b : Block) : Block :=
  { ((b.crozierStep 11).s pgSTW STW_STATUS_READY 1).s pgTOP TOP_WDOG_EN 1 with stw := { b.stw with wdogAt := b.elapsed } }

/-! ### The start -/

/-- Steps 7 to 11. `porst`: the rails' VOUT_MODE is read and the rails go to their targets. -/
def Sys.crozierLate (w : Sys) (porst : Bool) : Sys :=
  let w := w.upd (fun b => (if porst then b.readVoutModes else b).openPaths)
  let w := if w.blk.stw.bringUp then
      w.upd (fun b => (having 26 (fun d => (b.dom d).up)).foldl (fun b d => b.bringUpDom d) b) else w
  let w := (w.cfgStage none 1).upd (fun b => b.settleCommits.epochZero.probeStart)
  let w := (w.cfgStage none 2).upd (fun b => b.threeTests.measureSpeeds)
  let w := if porst then w.upd Block.startRails else w
  w.upd (fun b =>
    let b := { b with stw := { b.stw with fromPorst := false } }
    ((b.holdAll.s pgPM (PM_DOMAIN_HELD domSD) 0).fabricReady).replayLatched)

/-- Step 6 has no test left to wait for. -/
def Sys.crozierTested (w : Sys) : Sys :=
  if w.blk.g pgSTW STW_STATUS_STEP = 6 ∧ w.blk.stw.testing = [] ∧ w.blk.halted = false then
    w.crozierLate w.blk.stw.fromPorst
  else w

/-- Step 6: the plans of R428 start, for the domains just brought ON. -/
def Sys.startTests (w : Sys) : Sys :=
  let w := w.upd (fun b => b.crozierStep 6)
  (w.blk.startDoms.foldl (fun (w : Sys) d =>
    let q := w.planAtStart d
    match q.1 with
    | some p => (q.2.startPlan d p true).upd (fun b => { b with stw := { b.stw with testing := b.stw.testing ++ [d] } })
    | none => q.2) w).crozierTested

-- DEDUCED (notes/assumptions/52.md)
/-- Steps 2 to 6. -/
def Sys.crozierBody (w : Sys) : Sys :=
  let w := w.upd (fun b => (b.modDom domSD (fun x => { x with up := true })).crozierStep 2)
  if w.blk.stw.start.romBad then w.upd (fun b => (b.crozierHalt 2).raise (memSource 13) clMEMUE 2 13)
  else if w.blk.stw.start.wordsBad then w.upd (fun b => (b.crozierHalt 3).raise (srcLG 0) clLEDGER 2)
  else
    let w := w.upd (fun b => { b with stw := { b.stw with later := [], fromPorst := b.stw.fromPorst || !b.evl.booted } })
    let w := w.settleAdoption.countRepairs.settleCut
    let w := ((w.cfgSelect.cfgStage none 0).powerDoms).bootRecord
    w.crozierCart.startTests

/-- Step 1: wait for PG. -/
def Sys.crozierPower (w : Sys) : Sys :=
  let w := w.upd (fun b => (b.crozierStep 1).modDom domSD (fun x => { x with since := b.elapsed }))
  if w.blk.allPg then w.crozierBody else w

-- DEDUCED (notes/assumptions/52.md)
/-- The crozier runs if the pins let it: after a PORST from step 1, after a fabric reset from step 2. Without SD it does not run. -/
def Sys.crozier (w : Sys) : Sys :=
  if w.blk.pinsHigh = false ∨ w.blk.halted = true then w
  else if w.blk.evl.booted = false then w.crozierPower
  else if w.blk.domState domSD = 0 then w.crozierBody
  else w

/-! ### PORST (R470, R471, R481 step 0) -/

/-- LC[7:0] is decoded, and the state in force shown (R486). -/
def Block.decodeLc (b : Block) : Block :=
  let b := match b.lc.target with
    | some t => (b.s pgTOP TOP_LC_STATE_PREPARED 1).s pgTOP TOP_LC_STATE_TARGET t
    | none => b
  let b := b.s pgTOP TOP_LC_STATE_STATE b.lc.recorded
  let l := b.pins.lc.toNat
  if l = b.lc.recorded ∨ b.lc.target = some l then b else b.becomeInvalid

def Block.nextPowerEpoch (b : Block) : Block :=
  let e := min 65535 (b.lc.powerEpoch + 1)
  let b := { b with lc := { b.lc with powerEpoch := e } }
  (b.s pgLG LG_EPOCH_EPOCH e).s pgLG LG_EPOCH_SAT (b2n (e == 65535))

-- DEDUCED (notes/assumptions/72.md)
def Sys.porstRelease (w : Sys) (lc : BitVec 8) (vout : List Nat) (wc : WipeCheck) (sc : StartCheck) : Sys :=
  if w.blk.pins.porst then w
  else
    let w := w.powerOn
    let w := w.upd (fun b => ({ b with
      pins := { b.pins with porst := true, lc := lc },
      stw := { b.stw with vout := vout, wipe := wc, start := sc } } : Block).modDom domAO
        (fun x => { x with up := true, included := true }))
    if sc.wordsBad then w.upd (fun b => (b.crozierHalt 0).raise (srcLG 0) clLEDGER 2)
    else (w.upd (fun b => b.nextPowerEpoch.decodeLc)).crozier

def execPorstRelease (lc : BitVec 8) (vout : List Nat) (wc : WipeCheck) (sc : StartCheck) (s : State) :
    Host.Outcome State Fault Refusal :=
  run (fun w => w.porstRelease lc vout wc sc) s

/-- PORST_N falls. -/
def execPowerOnReset (s : State) : Host.Outcome State Fault Refusal :=
  run (fun w => if w.blk.pins.porst then w.powerOn else w) s

/-! ### PG (R481 step 1, R484; 13 R419) -/

/-- Does the crozier wait at step 1? -/
def Block.waitsPg (b : Block) : Bool :=
  b.pinsHigh && !b.halted && !b.evl.booted && !(b.dom domSD).up && b.g pgSTW STW_STATUS_STEP == 1

def Sys.pgRise (w : Sys) (r : Nat) : Sys :=
  let w := w.upd (fun b => b.s pgPM (PM_RAIL_STATUS_PG r) 1)
  if w.blk.waitsPg && w.blk.allPg then w.crozierBody else w

def execPgRise (r : Nat) (s : State) : Host.Outcome State Fault Refusal :=
  need (decide (r < 4)) (run (fun w => w.pgRise r) s)

/-- 10 ms pass at step 1: an event from the first domain of each rail whose PG is missing (13 R406). -/
def Block.pgMissing (b : Block) : Block :=
  if b.waitsPg && !b.allPg then
    let b := b.until ((b.dom domSD).since + 10 * oneMs)
    (having 4 (fun r => !b.on pgPM (PM_RAIL_STATUS_PG r))).foldl (fun b r => b.raise (srcPM (railDom r)) clPOWER 2 (railDom r))
      (b.crozierHalt 1)
  else b

def execPgMissingTimeout (s : State) : Host.Outcome State Fault Refusal := runB Block.pgMissing s

/-! ### Fabric resets (R470-R472, R489, R501) -/

-- DEDUCED (notes/assumptions/71.md)
/-- A fabric reset, and the crozier that follows it. While PORST_N is low there is none. -/
def Sys.resetFabric (w : Sys) (cause : Nat) : Sys :=
  if w.blk.pins.porst = false then w else (w.upd (fun b => b.fabricReset cause)).crozier

/-- FRST_N falls: the fabric stays in reset until it rises. -/
def execFabricReset (s : State) : Host.Outcome State Fault Refusal :=
  run (fun w => if w.blk.pins.frst then
      (w.upd (fun b => { b with pins := { b.pins with frst := false } })).resetFabric rcFRST else w) s

/-- What the crozier that follows finds. -/
def Sys.finding (w : Sys) (sc : StartCheck) : Sys := w.upd (fun b => { b with stw := { b.stw with start := sc } })

def Sys.frstRelease (w : Sys) (sc : StartCheck) : Sys :=
  if w.blk.pins.frst then w else ((w.upd (fun b => { b with pins := { b.pins with frst := true } })).finding sc).crozier

def execFrstRelease (sc : StartCheck) (s : State) : Host.Outcome State Fault Refusal := run (fun w => w.frstRelease sc) s

/-- A write of `v` to TOP_SOFT_RESET. -/
def Sys.softReset (w : Sys) (v : Word) (mg : Nat) : Sys :=
  if (w.blk.dom domAO).up = false then w
  else if bitsOf v.toNat 16 16 = 0x7B3A ∧ mg = 0 then w.resetFabric rcSOFT
  else w.upd (fun b => b.s pgTOP TOP_WDOG_WR_REFUSED 1)

def execTopSoftReset (v : Word) (mg : Nat) (s : State) : Host.Outcome State Fault Refusal := run (fun w => w.softReset v mg) s

-- DEDUCED (notes/assumptions/106.md)
/-- LIMIT ms pass without a refresh, at the earliest LIMIT ms after EN was set. -/
def Sys.wdogExpiry (w : Sys) (sc : StartCheck) : Sys :=
  if w.blk.on pgTOP TOP_WDOG_EN && w.blk.pinsHigh then
    ((w.upd (fun b => b.until (b.stw.wdogAt + max 10 (b.g pgTOP TOP_WDOG_LIMIT) * oneMs))).finding sc).resetFabric rcWDOG
  else w

def execStwWdogExpiry (sc : StartCheck) (s : State) : Host.Outcome State Fault Refusal := run (fun w => w.wdogExpiry sc) s

/-- LC[7:0] has shown the prepared target for 1 ms (R489). -/
def Sys.lcAdopt (w : Sys) (wc : WipeCheck) : Sys :=
  match w.blk.lc.target with
  | none => w
  | some t =>
    if w.blk.pins.porst = false ∨ w.blk.lcInvalid = true then w
    else
      let w := w.upd (fun b => { b with pins := { b.pins with lc := BitVec.ofNat 8 t } }.advance oneMs)
      let tag := if w.blk.evl.handover = 0 then zero32 else w.blk.evl.lastMac
      let q := w.adopt t w.blk.evl.handover tag wc
      if q.2 then q.1.resetFabric rcLIFECYCLE else q.1

def execLcAdopt (wc : WipeCheck) (s : State) : Host.Outcome State Fault Refusal := run (fun w => w.lcAdopt wc) s

/-! ### SELFTEST_END -/

def execSelftestEnd (d steps misr firstFail : Nat) (defects : List Defect) (readBackOk : Bool) (s : State) :
    Host.Outcome State Fault Refusal :=
  need (decide (d < 24)) (run (fun w => (w.selftestEnd d steps misr firstFail defects readBackOk).crozierTested) s)

/-! ### WAKE_INCLUDE (13 R398-R400; R479) -/

/-- Words that wait for domain `d`, or its bring-up rules, where it woke without an image. -/
def Sys.wakeConfig (w : Sys) (d : Nat) : Sys :=
  if w.blk.on pgPM (PM_DOMAIN_IMG_VALID d) then w
  else
    let w := if w.blk.stw.bringUp then w.upd (fun b => b.bringUpDom d) else w
    let mine := w.blk.stw.later.filter (fun q => domOfPage q.1 == d)
    let w := mine.foldl (fun (w : Sys) q => w.cfgStore q.1 q.2.1 q.2.2) w
    w.upd (fun b =>
      let b := { b with stw := { b.stw with later := b.stw.later.filter (fun q => domOfPage q.1 != d) } }
      ((mine.map (fun q => q.1)).eraseDups).foldl (fun b p => b.commitPage p) b)

/-- The crozier's wake path (13 R399): SD starts afresh, configured where its image is not valid, and epoch 0 holds it alone. -/
def Sys.crozierWake (w : Sys) : Sys :=
  let w := w.upd (fun b => b.openPaths)
  let w :=
    if w.blk.on pgPM (PM_DOMAIN_IMG_VALID domSD) then w
    else
      let w := w.cfgSelect.upd (fun b => { b with stw := { b.stw with later := [] } })
      let w := if w.blk.stw.bringUp then w.upd (fun b => b.bringUpDom domSD) else w
      ((w.cfgStage (some domSD) 0).cfgStage (some domSD) 1).cfgStage (some domSD) 2
  w.upd (fun b =>
    let b := (if b.g pgPR PR_DUMP_PERIOD_PERIOD = 0 then b else b.periodDistribute (b.rd pgPR 0x050))
    let b := b.settleCommits.epochZero.probeStart.threeTests.measureSpeeds.fabricReady
    let b := ((b.s pgPM (PM_DOMAIN_PHASE domSD) 0).wakeEnds domSD 0).modDom domSD (fun x => { x with included := true })
    let b := (having 24 (fun d => (b.dom d).waitSd)).foldl (fun b d => b.wakeAttempt d) b
    b.replayLatched)

/-- Has the steward been asked for the change that includes `d`? -/
def Block.includeAsked (b : Block) (d : Nat) : Bool :=
  b.stw.queue.contains (.wake d) || b.stw.change.any (fun c => c.cause == .wake d) || (b.dom d).included

-- DEDUCED (notes/assumptions/51.md)
def Sys.wakeInclude (w : Sys) (d : Nat) : Sys :=
  if w.blk.domPhase d ≠ 11 ∨ w.blk.safe = true then w
  else if d = domSD then w.crozierWake
  else if w.blk.includeAsked d then w
  else
    let w := w.wakeConfig d
    w.upd (fun b =>
      let b := b.readyCells (nodesOfDom d)
      let b := b.enablePorts (fun n => domOfNode n == d ||
        (List.range 4).any (fun p => match neighbour n p with | some m => domOfNode m == d | none => false))
      b.askChange (.wake d))

def execWakeInclude (d : Nat) (s : State) : Host.Outcome State Fault Refusal :=
  need (decide (d < 25)) (run (fun w => w.wakeInclude d) s)

/-! ### A write to any page, and REGISTER_WRITE -/

/-- A write access, the TOP soft reset included: it acts after every other word of the access. -/
def Sys.pageWrite (w : Sys) (k : Writer) (p off : Nat) (words : List Word) : Sys :=
  let w := w.writePage k p off words
  if p = pgTOP ∧ off ≤ 0x060 then
    match words[(0x060 - off) / 4]? with
    | some v => w.softReset v k.mg
    | none => w
  else w

/-- The writer behind a SRC. The steward's own writes change SO fields (R9). -/
def Block.writerOf (b : Block) (src : Nat) : Writer := { mg := b.group src, src := src, so := src == 204 }

-- DEDUCED (notes/assumptions/67.md)
/-- A write of one word by SRC `src` to a page whose block is on. An address of no register word has no effect (R51, 15 R449). -/
def Sys.registerWrite (w : Sys) (addr : Nat) (v : Word) (src : Nat) : Sys :=
  match area addr with
  | .page p off =>
    if w.blk.pageOn p = true ∧ off % 4 = 0 ∧ isCounterPage p = false then w.pageWrite (w.blk.writerOf src) p off [v] else w
  | _ => w

def execRegisterWrite (addr : Nat) (w : Word) (src : Nat) (s : State) : Host.Outcome State Fault Refusal :=
  run (fun x => x.registerWrite addr w src) s

end Sys2Proof.Machine
end

