-- ==== Sys2Proof/Machine/Endpoints.lean ====
section
/-! DEFINITION. A request at its target: the checks of R50, pages, memories and their ports, endpoints, message queues and
interrupts of the hosts, image reads, and the service and debug ports (02 R38-R52; 04 R107-R110; 09 R285-R295; 10 R303-R316;
13 R407; 15 R452; 19 R541). -/
namespace Sys2Proof.Machine

/-! ### The accesses themselves -/

/-- What ADD or SWAP writes where `old` stands, or a write (R38, R519). -/
def newBytes (o : Nat) (old data : List Byte) : List Byte :=
  if o = oADD then leBytes old.length (leNat old + leNat data) else data

def wordsFrom (bs : List Byte) : List Word :=
  (List.range (bs.length / 4)).map (fun j => BitVec.ofNat 32 (leNat (sliceBytes bs (4 * j) 4)))

/-- The data flits of a read from `a` that hold a byte of a poisoned word (11 R335). -/
def poisonFlits (a len : Nat) (words : List Nat) : List Nat :=
  (List.range (ceilDiv (len + 1) 16)).filter (fun j =>
    words.any (fun x => decide (x < a + 16 * j + 16) && decide (a + 16 * j < x + 16)))

-- DEDUCED (notes/assumptions/77.md)
/-- A memory access at the address where the memory stands: status, bytes read, flits with POISON. An ADD or SWAP on a poisoned
word writes nothing (R46). -/
def Sys.memAccess (w : Sys) (a o len : Nat) (data : List Byte) : Nat × List Byte × List Nat × Sys :=
  if needsRead o then
    let r := w.read a (len + 1)
    let bad := poisonFlits a len r.2.2.1
    if o = oRD ∨ r.2.1 = stPOISON then (r.2.1, r.1, bad, r.2.2.2)
    else (r.2.1, r.1, bad, r.2.2.2.write a (newBytes o r.1 data))
  else (stOK, [], [], w.write a data)

/-- What a page access reads, and the words that it then writes. -/
def Sys.pageBytes (w : Sys) (p off o len : Nat) : List Byte × Sys :=
  if needsRead o then w.readPage p off (len + 1) else ([], w)

-- DEDUCED (notes/assumptions/78.md)
def Sys.pageStore (w : Sys) (k : Writer) (p off o : Nat) (old data : List Byte) : Sys :=
  if needsWrite o then w.pageWrite k p off (wordsFrom (newBytes o old data)) else w

/-! ### Steps 5 and 6 of R50 -/

/-- Size and alignment of ADD and SWAP (R38). -/
def atomicOk (o a len : Nat) : Bool := !(o == oADD || o == oSWAP) || ((len == 3 || len == 7) && a % (len + 1) == 0)

/-- Alignment and crossing of a page access (R51, R449, R519). -/
def pageShape (p off len : Nat) : Bool :=
  let u := if isCounterPage p then 8 else 4
  off % u == 0 && (len + 1) % u == 0 && decide (off + len ≤ 0xFFF)

/-- Is the byte in a memory, or part of one, that no master writes (07 R213; 08 R234; 16 R474; 18 R516)? -/
def readOnlyAt (a : Nat) : Bool :=
  match area a with
  | .bank _ off => decide (0x7DC000 ≤ off)
  | .evlog _ | .ledger _ | .retention _ => true
  | _ => false

/-- The checks of a memory access from `a` to `z`, in a memory whose last byte is `top` (R50, R52). -/
def memoryCheck (o a z top : Nat) : Nat :=
  if needsWrite o && (inKeyRegion a || inKeyRegion z) then stLOCKED
  else if needsWrite o && (readOnlyAt a || readOnlyAt z) then stDECODE
  else if top < z then stLONG
  else stOK

/-- The checks of an access to an endpoint window (R52; 09 R279, R289). -/
def windowCheck (i o off len : Nat) : Nat :=
  if isHostPort i then (if o ≠ oMSG ∧ 0xFFFFFFFF < off + len then stLONG else stOK)
  else if 0x1000000 ≤ off ∨ off % 4 ≠ 0 ∨ (len + 1) % 4 ≠ 0 then stDECODE
  else if 0xFFFFFF < off + len ∨ (o = oMSG ∧ 64 < len + 1) then stLONG
  else stOK

/-- Steps 5 and 6 but for the data-flit count. Those of the address-zero window wait for its grant (04 R110). -/
def addressCheck (i o a len : Nat) : Nat :=
  match area a with
  | .window j off => if j = i ∧ atomicOk o a len = true then windowCheck i o off len else stDECODE
  | .unmapped => stDECODE
  | .page p off => if o ≠ oMSG ∧ atomicOk o a len = true ∧ pageShape p off len = true then stOK else stDECODE
  | .zero _ => if o ≠ oMSG ∧ atomicOk o a len = true then stOK else stDECODE
  | .bank k _ => if o ≠ oMSG ∧ atomicOk o a len = true then memoryCheck o a (a + len) (bankAddr k 0x7FFFFF) else stDECODE
  | .evlog _ => if o ≠ oMSG ∧ atomicOk o a len = true then memoryCheck o a (a + len) (evlAddr + 0x7FFFFF) else stDECODE
  | .ledger _ => if o ≠ oMSG ∧ atomicOk o a len = true then memoryCheck o a (a + len) (ledgerAddr + 0x3FFFFF) else stDECODE
  | .retention _ => if o ≠ oMSG ∧ atomicOk o a len = true then memoryCheck o a (a + len) (retentionAddr + 0x3FFFF) else stDECODE

/-! ### Step 7 of R50 -/

/-- The event, and for DBG and the service port the record, of an access from SRC `src` that ends DENIED or LOCKED (R312, R316). -/
def Block.noteRefusal (b : Block) (i src o a len st : Nat) : Block :=
  if st = stLOCKED then
    let b := b.raise (srcNi i 0) clSEC 1 src
    if src = 0x1FF ∨ src = servSrc then b.debugDenied a o len i else b
  else if st = stDENIED then b.raise (srcNi i 0) clGATE 0 src
  else b

/-! ### Answers -/

/-- The target NI refuses a request: a posted write is dropped and counted. -/
def Block.refuse (b : Block) (i : Nat) (p : Packet) (st : Nat) : Block :=
  if p.opc = oWRP then b.cntNi i cRX_DISCARD else b.sendResponse i p st []

/-- Is it a write whose data arrived poisoned (R49)? -/
def Packet.spoilt (p : Packet) : Bool := isWrite p.opc && p.poisoned

/-- Steps 7 and 8 of R50, given the peristome's verdict: the request is refused, or `pass` has its effect. A spoilt ADD or SWAP goes on, since
its answer carries the old value (R40). -/
def Sys.decide78 (w : Sys) (i : Nat) (p : Packet) (v : Nat) (pass : Sys → Sys) : Sys :=
  if v ≠ stOK then w.upd (fun b => (b.noteRefusal i p.src p.opc p.addr p.len v).refuse i p v)
  else if p.spoilt && !(p.opc == oADD || p.opc == oSWAP) then
    w.upd (fun b => (if p.opc = oWRP then b.raise (srcNi i 0) clNI 1 else b).refuse i p stPOISON)
  else pass w

/-- Answer a request that had its effect. A posted write takes no answer. -/
def Block.answer (b : Block) (i : Nat) (p : Packet) (st : Nat) (bytes : List Byte) (bad : List Nat) : Block :=
  if p.opc = oWRP then b else b.sendResponse i p st bytes bad

/-- A memory access of a packet at the address where the memory stands. A spoilt ADD or SWAP only reads (R40, R49). -/
def Sys.serveMem (w : Sys) (i : Nat) (p : Packet) (a : Nat) : Sys :=
  let r := w.memAccess a (if p.spoilt then oRD else p.opc) p.len (p.bytes (p.len + 1))
  r.2.2.2.upd (fun b => b.answer i p (if p.spoilt then stPOISON else r.1) r.2.1 r.2.2.1)

-- DESIGN CHOICE (notes/assumptions/105.md)
/-- The `n` counters from offset `off` on that were written in state `b0`: one that has passed its top since, in the same act, sets COLLIDE
in place of WRAP (15 R450). -/
def Block.collide (b0 b : Block) (p off n : Nat) : Block :=
  (List.range n).foldl (fun b j =>
    let old := (b0.counter p (off + 8 * j)).toNat
    let new := (b.counter p (off + 8 * j)).toNat
    if new % 2 ^ 48 < old % 2 ^ 48 then
      b.setCounter p (off + 8 * j) (BitVec.ofNat 64 (new % 2 ^ 48 + (old / 2 ^ 62 ||| 1) * 2 ^ 62)) else b) b

-- DEDUCED (notes/assumptions/78.md)
/-- A page access of a packet. Its answer leaves before a write acts, which may be a reset; but a write of a counter comes before the
answer is counted (15 R450). -/
def Sys.servePage (w : Sys) (i : Nat) (p : Packet) (pg off : Nat) : Sys :=
  let r := w.pageBytes pg off p.opc p.len
  let k := w.blk.writerOf p.src
  if p.spoilt then r.2.upd (fun b => b.answer i p stPOISON r.1 [])
  else if isCounterPage pg then
    let x := r.2.pageStore k pg off p.opc r.1 (p.bytes (p.len + 1))
    x.upd (fun b => b.collide (b.answer i p stOK r.1 []) pg off (if needsWrite p.opc then (p.len + 1) / 8 else 0))
  else (r.2.upd (fun b => b.answer i p stOK r.1 [])).pageStore k pg off p.opc r.1 (p.bytes (p.len + 1))

/-! ### Memory ports (R107-R110) -/

/-- The port of a memory at a key of `ports`; both targets of the address-zero window share one queue, which is decoded at the grant. -/
def portKey : MemPort → Nat
  | .bank k => k
  | .xbar t => 8 + t
-- DEDUCED (notes/assumptions/76.md)
def queueKey : MemPort → Nat
  | .bank k => k
  | .xbar t => if t = 0 then 9 else 8 + t

/-- The NI through which the fabric reaches a port. -/
def portNi : MemPort → Nat
  | .bank k => 192 + k
  | .xbar t => match t with | 2 => 212 | 3 => 214 | 4 => 205 | _ => 204

-- DEDUCED (notes/assumptions/76.md)
/-- The port whose queue an access joins. -/
def portOf (a : Nat) : Option MemPort :=
  match area a with
  | .zero _ => some (.xbar 1)
  | .bank k _ => some (.bank k)
  | .retention _ => some (.xbar 2)
  | .ledger _ => some (.xbar 3)
  | .evlog _ => some (.xbar 4)
  | _ => none

-- DEDUCED (notes/assumptions/75.md)
/-- Crossbar target, 0 boot ROM or 1 working SRAM, that an address of the zero window decodes to now; the boot ROM's port answers for
the unmapped parts. -/
def Block.zeroTarget (b : Block) (a : Nat) : Nat :=
  match b.windowAt a with | some c => if c < 0x20000 then 0 else 1 | none => 0

/-- Where the access of a transaction lies. -/
def MemTxn.addr (t : MemTxn) : Nat := match t.job with | .access p => p.addr | _ => 0

/-- The transactions that wait for port `m`, the longest waiting first. Those of a bank wait out its wipe (11 R347). -/
def Block.waitingAt (b : Block) (m : MemPort) : List MemTxn :=
  let ws := (b.port (queueKey m)).wait
  match m with
  | .xbar 0 => ws.filter (fun t => b.zeroTarget t.addr == 0)
  | .xbar 1 => ws.filter (fun t => b.zeroTarget t.addr == 1)
  | .bank k => if b.mm.wiping.contains k then [] else ws
  | _ => ws

-- DESIGN CHOICE (notes/assumptions/94.md)
/-- Requesters of a port, the highest place first: at a bank its NI's attachments, the streamer's two queues and the seal; at the crossbar the
masters in R109's order. After reset they stand in number order. -/
def MPort.order (x : MPort) : List Nat := if x.rot = [] then List.range 5 else x.rot

/-- Does `t` go before `u` by QOS and rotation? -/
def MPort.before (x : MPort) (t u : MemTxn) : Bool :=
  decide (u.qos < t.qos) || (t.qos == u.qos && decide (x.order.idxOf t.who < x.order.idxOf u.who))

def MPort.pick (x : MPort) (ws : List MemTxn) : Option MemTxn :=
  match ws with
  | [] => none
  | t :: rest => some (if x.grants % 16 = 15 then t else rest.foldl (fun m u => if x.before u m then u else m) t)

/-- `who` drops below the lowest of its equals `eq` in `order`. -/
def dropAmong (who : Nat) (eq order : List Nat) : List Nat :=
  let rest := order.erase who
  let place := (rest.zipIdx.filter (fun q => eq.contains q.1)).foldl (fun m q => max m (q.2 + 1)) (order.idxOf who)
  rest.take place ++ [who] ++ rest.drop place

/-- The winner takes the lowest place among the waiting requesters of its QOS, and the grant parks on it. -/
def MPort.won (x : MPort) (t : MemTxn) (ws : List MemTxn) : MPort :=
  { x with rot := dropAmong t.who ((ws.filter (fun u => u.qos == t.qos)).map (fun u => u.who)) x.order,
           grants := (x.grants + 1) % 16, parked := some t.who }

/-- QOS of the crossbar's masters but NI 204 (R109): 0 the rhizine controller, 1 and 2 the core's ports, 4 the crypto engine. -/
def masterQos (x : Nat) : Nat := if x = 0 then 15 else if x = 4 then 8 else 12

-- DEDUCED (notes/assumptions/75.md)
/-- A granted access to the address-zero window: steps 5 and 6 under the MAP in force, then the rest of R50. -/
def Sys.serveZero (w : Sys) (p : Packet) (v : Nat) : Sys :=
  let b := w.blk
  let rom (a : Nat) : Bool := match b.windowAt a with | some c => decide (c < 0x20000) | none => false
  let z := p.addr + p.len
  match b.windowAt p.addr with
  | none => w.upd (fun b => b.refuse 204 p stDECODE)
  | some c =>
    if needsWrite p.opc && (rom p.addr || rom z) then w.upd (fun b => b.refuse 204 p stDECODE)
    else if (if c < 0x20000 then 0x20000 else 0x80000) ≤ c + p.len then w.upd (fun b => b.refuse 204 p stLONG)
    else w.decide78 204 p v (fun x => x.serveMem 204 p c)

-- DEDUCED (notes/assumptions/76.md)
/-- A port grants one of the transactions that wait, among them accesses of the masters `asks` that are the steward's own business. -/
def Sys.portGrant (w : Sys) (m : MemPort) (asks : List Nat) : Sys :=
  let ws := w.blk.waitingAt m ++ asks.map (fun x => ({ who := x, qos := masterQos x, job := .own } : MemTxn))
  match (w.blk.port (portKey m)).pick ws with
  | none => w
  | some t =>
    let w := w.upd (fun b =>
      (b.modPort (queueKey m) (fun x => { x with wait := x.wait.erase t })).modPort (portKey m) (fun x => x.won t ws))
    match t.job with
    | .access p =>
      (match area p.addr with
       | .zero _ => w.serveZero p p.peri
       | _ => w.serveMem (portNi m) p p.addr)
    | .stream a => w.streamGrant (portKey m) a
    | .seal => w.sealGrant (portKey m)
    | .own => w

def execBankPortGrant (m : MemPort) (asks : List Nat) (s : State) : Host.Outcome State Fault Refusal :=
  need (memPortOk m && asksOk m asks) (run (fun w => w.portGrant m asks) s)

/-- A request joins its port's queue with the QOS of its packet. Its requester is the attachment at a bank, NI 204's place at the crossbar. -/
def Block.joinPort (b : Block) (p : Packet) : Block :=
  match portOf p.addr with
  | some m =>
    let who := match m with | .bank _ => p.via | .xbar _ => 3
    b.modPort (queueKey m) (fun x => { x with wait := x.wait ++ [{ who := who, qos := p.qos, job := .access p }] })
  | none => b

/-! ### REQUEST_DELIVER (R50) -/

/-- A request as it stands on the target request channel (09 R278, R288). -/
def reqBeat (i : Nat) (p : Packet) : ReqBeat :=
  { opc := p.opc, len := p.len, src := p.src,
    off := match area p.addr with | .window _ off => off | _ => 0,
    data := if isWrite p.opc then dataBeats (beatWidth i) (p.bytes (p.len + 1)) else [] }

-- DESIGN CHOICE (notes/assumptions/1.md), DEDUCED (notes/assumptions/79.md)
/-- The NI hands a request to its endpoint, a MSG to the message queue of a host; it keeps what it owes an answer for. The old value with
which it answers a spoilt ADD or SWAP itself is free. -/
def Block.toEndpoint (b : Block) (i : Nat) (p : Packet) : Block :=
  if p.spoilt then
    let x := b.fresh
    x.2.sendResponse i p stPOISON (leBytes (p.len + 1) x.1)
  else if isHostPort i = true ∧ p.opc = oMSG then b.modNi i (fun x => { x with msgq := x.msgq ++ [p] })
  else
    let b := (b.modNi i (fun x => { x with outReq := some (reqBeat i p) })).beatPasses i 1
    if p.opc = oWRP then b else b.modNi i (fun x => { x with toEnd := x.toEnd ++ [{ p with since := b.elapsed }] })

-- DEDUCED (notes/assumptions/82.md)
/-- Step 3: is the request refused in the safe state (12 R375)? -/
def Block.safeRefuses (b : Block) (p : Packet) : Bool :=
  b.safe && p.cls == cREQ && b.group p.src != 0 && b.group p.src != 14

/-- Steps 5 to 8 at the NI: the peristome has judged the request when its head was decoded (10 R304). -/
def Sys.deliverChecked (w : Sys) (i : Nat) (p : Packet) : Sys :=
  let st := addressCheck i p.opc p.addr p.len
  let v := p.peri
  if st ≠ stOK then w.upd (fun b => (b.noteRefusal i p.src p.opc p.addr p.len st).refuse i p st)
  else
    match area p.addr with
    | .zero _ => w.upd (fun b => b.joinPort p)
    | .window _ _ => w.decide78 i p v (fun x => x.upd (fun b => b.toEndpoint i p))
    | .page pg off => w.decide78 i p v (fun x => x.servePage i p pg off)
    | _ => w.decide78 i p v (fun x => x.upd (fun b => b.joinPort p))

/-- A request at NI `i`: PROBE is the NI's own (R39), the rest goes through R50 from step 3. -/
def Sys.deliver (w : Sys) (i : Nat) (p : Packet) : Sys :=
  let b := w.blk
  if p.opc = oPROBE then
    w.upd (fun b => if p.flits = [] then b.sendResponse i p stOK [] else (b.raise (srcNi i 0) clNI 1).sendResponse i p stDECODE [])
  else if b.safeRefuses p then w.upd (fun b => b.refuse i p stDENIED)
  else if p.forEndpoint && b.stuck i then w.upd (fun b => b.refuse i p stSTUCK)
  else if p.forEndpoint && b.lpHeld i then
    w.upd (fun b => (if p.opc = oWRP then b.raise (srcNi i 0) clNI 0 else b).refuse i p stOFF)
  else if p.flits.length ≠ dataFlitCount p.opc p.len 0 then w.upd (fun b => (b.raise (srcNi i 0) clNI 1).refuse i p stDECODE)
  else w.deliverChecked i p

-- DEDUCED (notes/assumptions/74.md)
/-- A read of a page that another NI serves: the PM answers it from an image (13 R407). -/
def Packet.forImage (p : Packet) : Bool :=
  p.opc == oRD && (match area p.mid with | .page pg _ => servingNi pg != 212 | _ => false)

/-- A request that NI `i` has not decoded yet. -/
def Packet.isRequest (p : Packet) (i : Nat) : Bool :=
  [oRD, oWR, oWRP, oADD, oSWAP, oMSG, oPROBE].contains p.opc && !(i == 212 && p.forImage)

/-- Has NI `i`, its endpoint no longer stuck, still to deliver an ABORTED of R277, which goes first? -/
def Block.resuming (b : Block) (i : Nat) : Bool := !b.stuck i && (b.ni i).ended.any (fun t => t.stuck)

-- DEDUCED (notes/assumptions/69.md)
/-- The host accepts the interrupt write that has waited longest (R290). -/
def Block.passMsi (b : Block) (i : Nat) : Block :=
  match (b.ni i).msi with
  | [] => b
  | m :: rest => if b.stuck i || b.resuming i then b else (b.modNi i (fun x => { x with msi := rest, outMsi := some m })).beatPasses i 1

def Sys.requestDeliver (w : Sys) (i : Nat) : Sys :=
  let w := w.upd (fun b => b.passMsi i)
  match takeFirst (fun p => p.isRequest i && !(p.forEndpoint && w.blk.resuming i)) (w.blk.ni i).rx with
  | none => w
  | some (p, rest) => (w.upd (fun b => b.modNi i (fun x => { x with rx := rest }))).deliver i p

def execRequestDeliver (ni : Nat) (s : State) : Host.Outcome State Fault Refusal :=
  need (isNi ni) (run (fun w => w.requestDeliver ni) s)

/-! ### ENDPOINT_RESPONSE and MSG_QUEUE_TAKEN (R288, R289) -/

-- DEDUCED (notes/assumptions/79.md)
/-- Statuses that an endpoint may answer: a host those of R288, a loop engine any of R46. -/
def endStatusOk (i st : Nat) : Bool :=
  if isHostPort i then [stOK, stCORR, stDECODE, stDENIED, stPOISON].contains st else decide (st < 0xC)

-- DEDUCED (notes/assumptions/79.md)
/-- The endpoint answers the request at place `idx` of those it has accepted. -/
def Block.endpointResponse (b : Block) (i idx st : Nat) (data : List Byte) : Block :=
  match (b.ni i).toEnd[idx]? with
  | none => b
  | some p =>
    let b := b.modNi i (fun x => { x with toEnd := x.toEnd.eraseIdx idx })
    let good := endStatusOk i st
    let b := if good then b else b.raise (srcNi i 0) clNI 1
    b.sendResponse i p (if good then st else stDECODE) data (if st = stPOISON then List.range 16 else [])

def execEndpointResponse (ni idx status : Nat) (data : List Byte) (s : State) : Host.Outcome State Fault Refusal :=
  need (isNi ni && decide (status < 16)) (runB (fun b => b.endpointResponse ni idx status data) s)

/-- The host takes the last beat of the entry at the front: its descriptor beat and its data beats have passed. -/
def Block.msgTaken (b : Block) (i : Nat) : Block :=
  match (b.ni i).msgq with
  | [] => b
  | p :: rest =>
    if b.resuming i then b
    else
      let beats := p.headNat :: dataBeats 32 (p.bytes (p.len + 1))
      ((b.modNi i (fun x => { x with msgq := rest, outMsg := beats })).beatPasses i 4).sendResponse i p stOK []

def execMsgQueueTaken (hp : Nat) (s : State) : Host.Outcome State Fault Refusal :=
  need (decide (hp < 4)) (runB (fun b => b.msgTaken (200 + hp)) s)

/-! ### HOST_EVENT_DELIVER (R290) -/

-- DEDUCED (notes/assumptions/69.md)
/-- An EVENT for line `k`: PEND, and in message mode one waiting write for the line, formed of NI_HP_MSI_ADDR and NI_HP_MSI_DATA. -/
def Block.hostLine (b : Block) (i k : Nat) : Block :=
  let p := pgNi i
  let b := b.s p NI_HP_IRQ_PEND (b.g p NI_HP_IRQ_PEND ||| 2 ^ k)
  if bit (b.g p NI_HP_IRQ_MODE) k && !b.stuck i && !(b.ni i).msi.any (fun m => m.line == k) then
    let m : Msi := { line := k, off := (b.rd p (NI_HP_MSI_ADDR k)).toNat, data := (b.rd p (NI_HP_MSI_DATA k)).toNat, since := b.elapsed }
    b.modNi i (fun x => { x with msi := x.msi ++ [m] })
  else b

def Block.hostEvent (b : Block) (i : Nat) : Block :=
  match b.takeRx i oEVENT with
  | none => b
  | some (p, b) => b.hostLine i (leNat (p.bytes 1) % 4)

def execHostEventDeliver (hp : Nat) (s : State) : Host.Outcome State Fault Refusal :=
  need (decide (hp < 4)) (runB (fun b => b.hostEvent (200 + hp)) s)

/-- The level of IRQ[k] of a host port (R290). -/
def Block.irq (b : Block) (hp k : Nat) : Bool :=
  let p := pgNi (200 + hp)
  bit (b.g p NI_HP_IRQ_PEND) k && bit (b.g p NI_HP_IRQ_ENABLE) k && !bit (b.g p NI_HP_IRQ_MODE) k

/-! ### IMAGE_READ (13 R407) -/

def Sys.imageAnswer (w : Sys) (p : Packet) (pg off : Nat) : Sys :=
  let b := w.blk
  let d := domOfPage pg
  if b.safeRefuses p then w.upd (fun b => b.refuse 212 p stDENIED)
  else if b.on pgPM (PM_DOMAIN_IMG_VALID d) = false then w.upd (fun b => b.refuse 212 p stOFF)
  else if p.flits ≠ [] then w.upd (fun b => (b.raise (srcNi 212 0) clNI 1).refuse 212 p stDECODE)
  else if pageShape pg off p.len = false then w.upd (fun b => b.refuse 212 p stDECODE)
  else
    w.decide78 212 p p.peri (fun x => x.upd (fun b => b.answer 212 p stOK
      ((List.range ((p.len + 1) / 4)).flatMap (fun j => leBytes 4 (b.imageWord d pg (off + 4 * j)).toNat)) []))

-- DEDUCED (notes/assumptions/74.md)
def Sys.imageRead (w : Sys) : Sys :=
  match takeFirst Packet.forImage (w.blk.ni 212).rx with
  | none => w
  | some (p, rest) =>
    let w := w.upd (fun b => b.modNi 212 (fun x => { x with rx := rest }))
    match area p.addr with
    | .page pg off => w.imageAnswer p pg off
    | _ => w

def execImageRead (s : State) : Host.Outcome State Fault Refusal := run Sys.imageRead s

/-! ### The service port (R291-R295) -/

/-- The NI of a target that the service port reaches (R291). -/
def serviceNi (a : Nat) : Option Nat :=
  match area a with
  | .page p _ => if servicePage p then some (servingNi p) else none
  | .evlog _ => some 205
  | .ledger _ => some 214
  | .retention _ => some 212
  | _ => none

/-- The service port's writes are MG0's (R292). -/
def serviceWriter : Writer := { mg := 0, src := servSrc, service := true }

/-- One access of the service port: its status, and the bytes of a read that ends OK or OK_CORRECTED. -/
def Sys.serviceAccess (w : Sys) (o a len : Nat) (data : List Byte) : Nat × List Byte × Sys :=
  match serviceNi a with
  | none => (stDECODE, [], w)
  | some i =>
    let st := addressCheck i o a len
    let st := if st = stOK then w.blk.accessVerdict i none 0 true o a len else st
    if st ≠ stOK then (st, [], w.upd (fun b => b.noteRefusal i servSrc o a len st))
    else
      match area a with
      | .page p off =>
        let r := w.pageBytes p off o len
        (stOK, r.1, r.2.pageStore serviceWriter p off o r.1 data)
      | _ =>
        let r := w.memAccess a o len data
        (r.1, if r.1 = stPOISON then [] else r.2.1, r.2.2.2)

-- DEDUCED (notes/assumptions/80.md)
/-- What the port has sent in the frame but for its filling 0xFF, and whether the frame ended early. -/
def Block.frameDone (b : Block) (cut : Bool) (miso : List Byte) : Block := { b with lastCut := cut, spOut := miso }

/-- A READ or WRITE frame that was complete. While PORST_N is low the port answers nothing. -/
def Sys.serviceFrame (w : Sys) (cut : Bool) (o a len : Nat) (data : List Byte) : Sys :=
  if w.blk.pins.porst = false then w
  else
    let r := w.serviceAccess o a len data
    r.2.2.upd (fun b => b.frameDone cut (BitVec.ofNat 8 (0xA0 + r.1) :: r.2.1))

def execServiceRead (addr len : Nat) (s : State) : Host.Outcome State Fault Refusal :=
  need (decide (addr < 2 ^ 48) && decide (len < 256)) (run (fun w => w.serviceFrame false oRD addr len []) s)

def execServiceWrite (addr : Nat) (data : List Byte) (s : State) : Host.Outcome State Fault Refusal :=
  need (decide (addr < 2 ^ 48) && decide (0 < data.length) && decide (data.length ≤ 256))
    (run (fun w => w.serviceFrame false oWR addr (data.length - 1) data) s)

/-- The byte of a STATUS frame (R293). -/
def Block.statusByte (b : Block) : Byte := BitVec.ofNat 8 (0x50 + 2 * b2n b.lastCut + b2n (b.domState domSD == 0))

def Block.statusFrame (b : Block) : Block := if b.pins.porst then b.frameDone false [b.statusByte] else b

def execServiceStatus (s : State) : Host.Outcome State Fault Refusal := runB Block.statusFrame s

/-- A frame whose CMD is none of the three: DECODE, and the rest is ignored. -/
def Block.badCommand (b : Block) : Block := if b.pins.porst then b.frameDone false [0xA3] else b

def execServiceBadCommand (cmd : Nat) (s : State) : Host.Outcome State Fault Refusal :=
  need (decide (cmd < 256) && cmd != 2 && cmd != 3 && cmd != 5) (runB Block.badCommand s)

-- DEDUCED (notes/assumptions/80.md)
/-- A frame that ends early (R294): a READ has its effect from frame byte 7 on, a WRITE from its last data byte on. -/
def Sys.frameCut (w : Sys) (c : Cut) : Sys :=
  let none' (w : Sys) : Sys := if w.blk.pins.porst then w.upd (fun b => b.frameDone true []) else w
  match c with
  | .beforeCommand => none' w
  | .read addr len n out =>
    if n < 8 then none' w
    else
      let w := w.serviceFrame true oRD addr len []
      if out || !w.blk.pins.porst then w else w.upd (fun b => b.frameDone true [])
  | .write addr len data =>
    if data.length < len + 1 then none' w else w.serviceFrame true oWR addr len (data.take (len + 1))

def execServiceFrameCut (c : Cut) (s : State) : Host.Outcome State Fault Refusal :=
  need (cutOk c) (run (fun w => w.frameCut c) s)

/-! ### DEBUG_ACCESS (19 R541) -/

/-- The instructions of the TAP: IDCODE is selected at reset, and every code but two selects BYPASS. The instruction register captures 1. -/
inductive TapInstr where
  | idcode
  | dbgAccess
  | bypass
deriving DecidableEq, Repr

def tapInstr (ir : BitVec 4) : TapInstr := if ir = 1 then .idcode else if ir = 8 then .dbgAccess else .bypass

def irCapture : BitVec 4 := 1

/-- Version 0x1, part number 0x0E96, manufacturer field 0x2A5, and 1. -/
def idcode : BitVec 32 := 0x10E9654B

/-- The 89 bits of DBG_ACCESS at Capture-DR over what was shifted in last: DATA, BUSY, and STATUS while no access is outstanding. -/
def Dbg.capture (d : Dbg) (old : Nat) : Nat :=
  let n := putBits (putBits old 48 32 d.data.toNat) 84 1 (b2n d.busy)
  if d.busy then n else putBits n 85 4 d.status

/-- Update-DR with GO set. -/
def Block.debugAccess (b : Block) (addr : Nat) (data : Word) (wr : Bool) : Block :=
  if b.pins.porst = false then b
  else
    let was := b.dbg.busy
    let b := { b with dbg := { b.dbg with addr := addr, data := data, wr := wr } }
    if was then b
    else if b.domState domSD ≠ 0 ∨ b.niUp 215 = false then { b with dbg := { b.dbg with status := stOFF } }
    else
      { b with dbg := { b.dbg with busy := true } }.present 215
        { opc := if wr then oWR else oRD, cls := cMGT, len := 3, addr := addr, data := if wr then leBytes 4 data.toNat else [] }

def execDebugAccess (addr : Nat) (data : Word) (wr : Bool) (s : State) : Host.Outcome State Fault Refusal :=
  need (decide (addr < 2 ^ 48)) (runB (fun b => b.debugAccess addr data wr) s)

/-! ### LINK_WIRE_FAULT and RHIZINE_CHAIN_BREAK (02 R29; 16 R469) -/

-- DEDUCED (notes/assumptions/81.md)
/-- A request, acknowledge or credit wire of the link on mesh port `p` of node `n` fails: the link stops and leaves the next epoch. -/
def Block.wireFault (b : Block) (n p : Nat) : Block :=
  match linkIndex n p with
  | none => b
  | some j =>
    if b.pageUp (pgNode n) = false then b
    else ((b.s (pgNode n) ⟨0x04C, 8 + p, 1⟩ 1).raise (srcNode n 0) clLINK 2 p).isolate 0 j (.contain clLINK)

def execLinkWireFault (n p : Nat) (s : State) : Host.Outcome State Fault Refusal :=
  need (isNode n && decide (p < 4) && (neighbour n p).isSome) (runB (fun b => b.wireFault n p) s)

-- DEDUCED (notes/assumptions/66.md)
/-- The ring breaks nearest node `n`; the steward reaches both sides from its own ends. -/
def Block.chainBreak (b : Block) (n : Nat) : Block :=
  if b.stw.brk.isSome then b else { b with stw := { b.stw with brk := some n } }.raise (srcNode n 1) clNODE 1

def execRhizineChainBreak (n : Nat) (s : State) : Host.Outcome State Fault Refusal :=
  need (isNode n) (runB (fun b => b.chainBreak n) s)

end Sys2Proof.Machine
end

