-- ==== Sys2Proof/Machine/Dispatch.lean ====
section
/-! DEFINITION. One arm for each command: its meaning. -/
namespace Sys2Proof.Machine

def exec (i : Instr) (s : State) : Host.Outcome State Fault Refusal :=
  match i with
  | .flitReceive r errs ups => Sys2Proof.Machine.execFlitReceive r errs ups s
  | .creditReturn p vc => Sys2Proof.Machine.execCreditReturn p vc s
  | .escapeWaitExpiry n p vc => Sys2Proof.Machine.execEscapeWaitExpiry n p vc s
  | .outputArbitration p => Sys2Proof.Machine.execOutputArbitration p s
  | .headAged r vc => Sys2Proof.Machine.execHeadAged r vc s
  | .slotBoundary => Sys2Proof.Machine.execSlotBoundary s
  | .arbActivation n => Sys2Proof.Machine.execArbActivation n s
  | .bankPortGrant m asks => Sys2Proof.Machine.execBankPortGrant m asks s
  | .requestInject ni cls r => Sys2Proof.Machine.execRequestInject ni cls r s
  | .requestDeliver ni => Sys2Proof.Machine.execRequestDeliver ni s
  | .endpointResponse ni idx status data => Sys2Proof.Machine.execEndpointResponse ni idx status data s
  | .responseAccept ni => Sys2Proof.Machine.execResponseAccept ni s
  | .responseDelivered ni tag => Sys2Proof.Machine.execResponseDelivered ni tag s
  | .responseTimeout ni tag => Sys2Proof.Machine.execResponseTimeout ni tag s
  | .tagHoldExpiry ni tag => Sys2Proof.Machine.execTagHoldExpiry ni tag s
  | .sinkWdogExpiry ni cause => Sys2Proof.Machine.execSinkWdogExpiry ni cause s
  | .sinkResume ni => Sys2Proof.Machine.execSinkResume ni s
  | .lpPwrOkFall ni => Sys2Proof.Machine.execLpPwrOkFall ni s
  | .lpPwrOkRise ni => Sys2Proof.Machine.execLpPwrOkRise ni s
  | .msgQueueTaken hp => Sys2Proof.Machine.execMsgQueueTaken hp s
  | .hostEventDeliver hp => Sys2Proof.Machine.execHostEventDeliver hp s
  | .serviceRead addr len => Sys2Proof.Machine.execServiceRead addr len s
  | .serviceWrite addr data => Sys2Proof.Machine.execServiceWrite addr data s
  | .serviceStatus => Sys2Proof.Machine.execServiceStatus s
  | .serviceBadCommand cmd => Sys2Proof.Machine.execServiceBadCommand cmd s
  | .serviceFrameCut c => Sys2Proof.Machine.execServiceFrameCut c s
  | .debugAccess addr data wr => Sys2Proof.Machine.execDebugAccess addr data wr s
  | .epochChangeStart => Sys2Proof.Machine.execEpochChangeStart s
  | .epochVerify bad => Sys2Proof.Machine.execEpochVerify bad s
  | .switchBroadcast => Sys2Proof.Machine.execSwitchBroadcast s
  | .epochDrained => Sys2Proof.Machine.execEpochDrained s
  | .drainTimeout => Sys2Proof.Machine.execDrainTimeout s
  | .routeTableAudit ups => Sys2Proof.Machine.execRouteTableAudit ups s
  | .nodeFlush n even odd => Sys2Proof.Machine.execNodeFlush n even odd s
  | .refclkLock => Sys2Proof.Machine.execRefclkLock s
  | .refclkLoss => Sys2Proof.Machine.execRefclkLoss s
  | .ppsEdge at256 => Sys2Proof.Machine.execPpsEdge at256 s
  | .ppsMiss => Sys2Proof.Machine.execPpsMiss s
  | .todArm lo hi => Sys2Proof.Machine.execTodArm lo hi s
  | .todExpiry => Sys2Proof.Machine.execTodExpiry s
  | .todFreeSet lo hi => Sys2Proof.Machine.execTodFreeSet lo hi s
  | .stepAuthorise w => Sys2Proof.Machine.execStepAuthorise w s
  | .stepApply => Sys2Proof.Machine.execStepApply s
  | .tuTimeCapture => Sys2Proof.Machine.execTuTimeCapture s
  | .latticeEdge => Sys2Proof.Machine.execLatticeEdge s
  | .latticeWordReceive n errs => Sys2Proof.Machine.execLatticeWordReceive n errs s
  | .cellSourceFault n => Sys2Proof.Machine.execCellSourceFault n s
  | .echoRound n src rtt rho cleanA cleanB => Sys2Proof.Machine.execEchoRound n src rtt rho cleanA cleanB s
  | .latticeRevert => Sys2Proof.Machine.execLatticeRevert s
  | .latticeForceB on => Sys2Proof.Machine.execLatticeForceB on s
  | .timedStrobe n => Sys2Proof.Machine.execTimedStrobe n s
  | .ppsOutPulse rise => Sys2Proof.Machine.execPpsOutPulse rise s
  | .csqOpen k w => Sys2Proof.Machine.execCsqOpen k w s
  | .csqLaunch k w => Sys2Proof.Machine.execCsqLaunch k w s
  | .csqAbort k w => Sys2Proof.Machine.execCsqAbort k w s
  | .streamPacketSend bank att => Sys2Proof.Machine.execStreamPacketSend bank att s
  | .prepareReceive ni => Sys2Proof.Machine.execPrepareReceive ni s
  | .stageReceive ni => Sys2Proof.Machine.execStageReceive ni s
  | .stageEndReceive ni => Sys2Proof.Machine.execStageEndReceive ni s
  | .voteWaitExpiry ni k => Sys2Proof.Machine.execVoteWaitExpiry ni k s
  | .recordNoPrepareExpiry ni k => Sys2Proof.Machine.execRecordNoPrepareExpiry ni k s
  | .recordNoTExpiry ni k => Sys2Proof.Machine.execRecordNoTExpiry ni k s
  | .shadowLoadStart ni k => Sys2Proof.Machine.execShadowLoadStart ni k s
  | .shadowLoadComplete ni k => Sys2Proof.Machine.execShadowLoadComplete ni k s
  | .shadowLoadParityError ni k => Sys2Proof.Machine.execShadowLoadParityError ni k s
  | .voteReceive => Sys2Proof.Machine.execVoteReceive s
  | .voteCutoff k => Sys2Proof.Machine.execVoteCutoff k s
  | .armReceive ni => Sys2Proof.Machine.execArmReceive ni s
  | .armAckReceive => Sys2Proof.Machine.execArmAckReceive s
  | .guardDeadline k => Sys2Proof.Machine.execGuardDeadline k s
  | .openLimitExpiry k => Sys2Proof.Machine.execOpenLimitExpiry k s
  | .abortMsgReceive ni => Sys2Proof.Machine.execAbortMsgReceive ni s
  | .abortLineReceive ni k a b => Sys2Proof.Machine.execAbortLineReceive ni k a b s
  | .abortLineInvalid ni k tree back => Sys2Proof.Machine.execAbortLineInvalid ni k tree back s
  | .commitRelease ni k => Sys2Proof.Machine.execCommitRelease ni k s
  | .ruleSetSwap ni => Sys2Proof.Machine.execRuleSetSwap ni s
  | .applyAckReceive ni k frac256 => Sys2Proof.Machine.execApplyAckReceive ni k frac256 s
  | .applyAckTimeout ni k => Sys2Proof.Machine.execApplyAckTimeout ni k s
  | .releasedReceive => Sys2Proof.Machine.execReleasedReceive s
  | .reportDeadline k => Sys2Proof.Machine.execReportDeadline k s
  | .abortNetTest => Sys2Proof.Machine.execAbortNetTest s
  | .abortNetPeriodicTest tree line => Sys2Proof.Machine.execAbortNetPeriodicTest tree line s
  | .abortTestReturn tree line delay => Sys2Proof.Machine.execAbortTestReturn tree line delay s
  | .abortTestTimeout tree line => Sys2Proof.Machine.execAbortTestTimeout tree line s
  | .lockstepMismatch => Sys2Proof.Machine.execLockstepMismatch s
  | .csqLockstepReset => Sys2Proof.Machine.execCsqLockstepReset s
  | .frondSeal bank w => Sys2Proof.Machine.execFrondSeal bank w s
  | .sealComplete bank => Sys2Proof.Machine.execSealComplete bank s
  | .frondRetire bank w => Sys2Proof.Machine.execFrondRetire bank w s
  | .retireComplete bank => Sys2Proof.Machine.execRetireComplete bank s
  | .recordForm => Sys2Proof.Machine.execRecordForm s
  | .checkpointForm readBackOk => Sys2Proof.Machine.execCheckpointForm readBackOk s
  | .checkpointTimer => Sys2Proof.Machine.execCheckpointTimer s
  | .checkpointRequest => Sys2Proof.Machine.execCheckpointRequest s
  | .checkpointHoldExpiry => Sys2Proof.Machine.execCheckpointHoldExpiry s
  | .logDisable => Sys2Proof.Machine.execLogDisable s
  | .logEnable => Sys2Proof.Machine.execLogEnable s
  | .drainEnable w => Sys2Proof.Machine.execDrainEnable w s
  | .drainSend => Sys2Proof.Machine.execDrainSend s
  | .tailRelease v => Sys2Proof.Machine.execTailRelease v s
  | .mgMapDistribute => Sys2Proof.Machine.execMgMapDistribute s
  | .mgMapActivate => Sys2Proof.Machine.execMgMapActivate s
  | .windowRead w => Sys2Proof.Machine.execWindowRead w s
  | .windowWrite w src => Sys2Proof.Machine.execWindowWrite w src s
  | .windowOpComplete => Sys2Proof.Machine.execWindowOpComplete s
  | .swapSchedule => Sys2Proof.Machine.execSwapSchedule s
  | .swapCancel => Sys2Proof.Machine.execSwapCancel s
  | .scrubRead r errs => Sys2Proof.Machine.execScrubRead r errs s
  | .correctionWriteBack addr => Sys2Proof.Machine.execCorrectionWriteBack addr s
  | .bankWipe w => Sys2Proof.Machine.execBankWipe w s
  | .bankWipeComplete => Sys2Proof.Machine.execBankWipeComplete s
  | .repeatClear => Sys2Proof.Machine.execRepeatClear s
  | .eventReceive src cls => Sys2Proof.Machine.execEventReceive src cls s
  | .ackTimerExpiry c => Sys2Proof.Machine.execAckTimerExpiry c s
  | .faultAck w => Sys2Proof.Machine.execFaultAck w s
  | .faultClear w => Sys2Proof.Machine.execFaultClear w s
  | .safeExit w mg => Sys2Proof.Machine.execSafeExit w mg s
  | .heldEventsSend => Sys2Proof.Machine.execHeldEventsSend s
  | .collectorMismatch parity good => Sys2Proof.Machine.execCollectorMismatch parity good s
  | .domainEntry w => Sys2Proof.Machine.execDomainEntry w s
  | .domainEntryTest w => Sys2Proof.Machine.execDomainEntryTest w s
  | .entryContinue d => Sys2Proof.Machine.execEntryContinue d s
  | .sdEntry w => Sys2Proof.Machine.execSdEntry w s
  | .sdDrainTimeout => Sys2Proof.Machine.execSdDrainTimeout s
  | .selftestEnd d steps misr firstFail defects readBackOk => Sys2Proof.Machine.execSelftestEnd d steps misr firstFail defects readBackOk s
  | .domainWake w service => Sys2Proof.Machine.execDomainWake w service s
  | .wakePowerGood d poisoned => Sys2Proof.Machine.execWakePowerGood d poisoned s
  | .wakeInclude d => Sys2Proof.Machine.execWakeInclude d s
  | .wakeTimeout d reason => Sys2Proof.Machine.execWakeTimeout d reason s
  | .wakeRetry d => Sys2Proof.Machine.execWakeRetry d s
  | .wakePin k => Sys2Proof.Machine.execWakePin k s
  | .wakeTimerFire => Sys2Proof.Machine.execWakeTimerFire s
  | .portRelease w => Sys2Proof.Machine.execPortRelease w s
  | .railPgFall r => Sys2Proof.Machine.execRailPgFall r s
  | .railTargetRequest w => Sys2Proof.Machine.execRailTargetRequest w s
  | .railFallResume r => Sys2Proof.Machine.execRailFallResume r s
  | .railConfirm r statusWord readVout => Sys2Proof.Machine.execRailConfirm r statusWord readVout s
  | .railConfirmTimeout r statusWord => Sys2Proof.Machine.execRailConfirmTimeout r statusWord s
  | .vfloorWrite w => Sys2Proof.Machine.execVfloorWrite w s
  | .smbalert answers => Sys2Proof.Machine.execSmbalert answers s
  | .imageRead => Sys2Proof.Machine.execImageRead s
  | .laneSpare n p wire => Sys2Proof.Machine.execLaneSpare n p wire s
  | .laneSpareSwitchRx n p => Sys2Proof.Machine.execLaneSpareSwitchRx n p s
  | .laneWatchReset => Sys2Proof.Machine.execLaneWatchReset s
  | .marginTrim n path slack cycle => Sys2Proof.Machine.execMarginTrim n path slack cycle s
  | .counterSnapshot => Sys2Proof.Machine.execCounterSnapshot s
  | .dumpComplete => Sys2Proof.Machine.execDumpComplete s
  | .dumpOneShot => Sys2Proof.Machine.execDumpOneShot s
  | .periodDistribute w => Sys2Proof.Machine.execPeriodDistribute w s
  | .periodActivate => Sys2Proof.Machine.execPeriodActivate s
  | .sampleClear ni => Sys2Proof.Machine.execSampleClear ni s
  | .powerOnReset => Sys2Proof.Machine.execPowerOnReset s
  | .fabricReset => Sys2Proof.Machine.execFabricReset s
  | .topSoftReset w mg => Sys2Proof.Machine.execTopSoftReset w mg s
  | .stwWdogExpiry sc => Sys2Proof.Machine.execStwWdogExpiry sc s
  | .resync w mg => Sys2Proof.Machine.execResync w mg s
  | .cfgSave w mg image readBackOk => Sys2Proof.Machine.execCfgSave w mg image readBackOk s
  | .cfgErase w mg => Sys2Proof.Machine.execCfgErase w mg s
  | .epochRebuild w mg => Sys2Proof.Machine.execEpochRebuild w mg s
  | .isolate w mg => Sys2Proof.Machine.execIsolate w mg s
  | .returnObject w mg probeOk => Sys2Proof.Machine.execReturnObject w mg probeOk s
  | .recordsRead w mg => Sys2Proof.Machine.execRecordsRead w mg s
  | .lcPrepare w mg noise => Sys2Proof.Machine.execLcPrepare w mg noise s
  | .lcPrepareDrained => Sys2Proof.Machine.execLcPrepareDrained s
  | .noiseRead w mg => Sys2Proof.Machine.execNoiseRead w mg s
  | .mboxUnknown w mg => Sys2Proof.Machine.execMboxUnknown w mg s
  | .lcAdopt wc => Sys2Proof.Machine.execLcAdopt wc s
  | .lcInvalid pins => Sys2Proof.Machine.execLcInvalid pins s
  | .lcValidReturn => Sys2Proof.Machine.execLcValidReturn s
  | .cartInsert image => Sys2Proof.Machine.execCartInsert image s
  | .cartRemove badWords => Sys2Proof.Machine.execCartRemove badWords s
  | .anchorInstall mg => Sys2Proof.Machine.execAnchorInstall mg s
  | .wearCollect => Sys2Proof.Machine.execWearCollect s
  | .wearTransfer badWords => Sys2Proof.Machine.execWearTransfer badWords s
  | .lifeWalk => Sys2Proof.Machine.execLifeWalk s
  | .lifeWalkRequest => Sys2Proof.Machine.execLifeWalkRequest s
  | .pageCommit page => Sys2Proof.Machine.execPageCommit page s
  | .shadowDiscard page => Sys2Proof.Machine.execShadowDiscard page s
  | .registerWrite addr w src => Sys2Proof.Machine.execRegisterWrite addr w src s
  | .linkWireFault n p => Sys2Proof.Machine.execLinkWireFault n p s
  | .rhizineChainBreak n => Sys2Proof.Machine.execRhizineChainBreak n s
  | .porstRelease lc vout wc sc => Sys2Proof.Machine.execPorstRelease lc vout wc sc s
  | .frstRelease sc => Sys2Proof.Machine.execFrstRelease sc s
  | .pgRise r => Sys2Proof.Machine.execPgRise r s
  | .pgMissingTimeout => Sys2Proof.Machine.execPgMissingTimeout s
  | .lpApplyAckFall ni => Sys2Proof.Machine.execLpApplyAckFall ni s
  | .bothInvalidCheck ni k => Sys2Proof.Machine.execBothInvalidCheck ni k s
  | .walkComplete => Sys2Proof.Machine.execWalkComplete s
  | .signatureVerifyEnd => Sys2Proof.Machine.execSignatureVerifyEnd s

end Sys2Proof.Machine
end

