-- ==== Sys2Proof/Machine/Step.lean ====
section
/-! DEFINITION. One step of the block: the first waiting command takes effect; with none waiting, a nanosecond passes. -/
namespace Sys2Proof.Machine

-- DESIGN CHOICE (notes/assumptions/3.md)
/-- No command waits: a tick of 1 ns (05 R113; notes/assumptions/3.md). -/
def idle (s : State) : State := { s with blk := s.blk.advance 256 }

-- DESIGN CHOICE (notes/assumptions/3.md, notes/assumptions/7.md)
def step (s : State) : Host.Outcome State Fault Refusal :=
  match s.pending with
  | [] => .next (idle s)
  | c :: rest => exec c { s with pending := rest }

/-- `s` with the command that the word spells put first in its queue. The table gives no row bits, so no word spells one. -/
def State.withFetchWord (s : State) (nbits w : Nat) : State :=
  match decodeTableWord nbits w with
  | some c => { s with pending := c :: s.pending }
  | none => s

end Sys2Proof.Machine
end

