-- ==== Sys2Proof/WellFormed.lean ====
section
/-! DEFINITION. Which commands name objects that the spec gives the block: the operand check of every command (01 R13-R19; 02 R37;
09 R293; 18 R515-R517). -/
namespace Sys2Proof
open Sys2Proof.Machine

-- DESIGN CHOICE (notes/assumptions/6.md)
/-- Every operand names an object that exists. A command that fails this check stops with the fault noSuchObject. -/
def Instr.wellFormed : Instr → Bool
  | .flitReceive r _ ups => portOk r && ups.all upsetOk
  | .creditReturn s vc => portOk s && decide (vc < 9)
  | .escapeWaitExpiry n p vc => portExists n p && decide (vc < 9)
  | .outputArbitration s => portOk s
  | .headAged r vc => portOk r && decide (vc < 9)
  | .slotBoundary => true
  | .arbActivation n => isNode n
  | .bankPortGrant m asks => memPortOk m && asksOk m asks
  | .requestInject ni _ _ => isNi ni
  | .requestDeliver ni => isNi ni
  | .endpointResponse ni _ status _ => isNi ni && decide (status < 16)
  | .responseAccept ni => isNi ni
  | .responseDelivered ni _ => isNi ni
  | .responseTimeout ni _ => isNi ni
  | .tagHoldExpiry ni _ => isNi ni
  | .sinkWdogExpiry ni _ => isNi ni
  | .sinkResume ni => isNi ni
  | .lpPwrOkFall ni => isLoopNi ni
  | .lpPwrOkRise ni => isLoopNi ni
  | .msgQueueTaken hp => decide (hp < 4)
  | .hostEventDeliver hp => decide (hp < 4)
  | .serviceRead addr len => decide (addr < 2 ^ 48) && decide (len < 256)
  | .serviceWrite addr data => decide (addr < 2 ^ 48) && decide (0 < data.length) && decide (data.length ≤ 256)
  | .serviceStatus => true
  | .serviceBadCommand cmd => decide (cmd < 256) && cmd != 2 && cmd != 3 && cmd != 5
  | .serviceFrameCut c => cutOk c
  | .debugAccess addr _ _ => decide (addr < 2 ^ 48)
  | .epochChangeStart => true
  | .epochVerify bad => match bad with | some n => isNode n | none => true
  | .switchBroadcast => true
  | .epochDrained => true
  | .drainTimeout => true
  | .routeTableAudit ups => ups.all upsetOk
  | .nodeFlush n _ _ => isNode n
  | .refclkLock => true
  | .refclkLoss => true
  | .ppsEdge _ => true
  | .ppsMiss => true
  | .todArm _ _ => true
  | .todExpiry => true
  | .todFreeSet _ _ => true
  | .stepAuthorise _ => true
  | .stepApply => true
  | .tuTimeCapture => true
  | .latticeEdge => true
  | .latticeWordReceive n _ => isNode n
  | .cellSourceFault n => isNode n
  | .echoRound n src _ _ _ _ => isNode n && decide (src < 3)
  | .latticeRevert => true
  | .latticeForceB _ => true
  | .timedStrobe n => isNode n
  | .ppsOutPulse _ => true
  | .csqOpen k _ => decide (k < 4)
  | .csqLaunch k _ => decide (k < 4)
  | .csqAbort k _ => decide (k < 4)
  | .streamPacketSend bank att => decide (bank < 8) && decide (att < 2)
  | .prepareReceive ni => isNi ni
  | .stageReceive ni => isNi ni
  | .stageEndReceive ni => isNi ni
  | .voteWaitExpiry ni k => isNi ni && decide (k < 4)
  | .recordNoPrepareExpiry ni k => isNi ni && decide (k < 4)
  | .recordNoTExpiry ni k => isNi ni && decide (k < 4)
  | .shadowLoadStart ni k => isLoopNi ni && decide (k < 4)
  | .shadowLoadComplete ni k => isLoopNi ni && decide (k < 4)
  | .shadowLoadParityError ni k => isLoopNi ni && decide (k < 4)
  | .voteReceive => true
  | .voteCutoff k => decide (k < 4)
  | .armReceive ni => isNi ni
  | .armAckReceive => true
  | .guardDeadline k => decide (k < 4)
  | .openLimitExpiry k => decide (k < 4)
  | .abortMsgReceive ni => isNi ni
  | .abortLineReceive ni k _ _ => isNi ni && decide (k < 4)
  | .abortLineInvalid ni k tree _ => isNi ni && decide (k < 4) && decide (tree < 2)
  | .commitRelease ni k => isNi ni && decide (k < 4)
  | .ruleSetSwap ni => isNi ni
  | .applyAckReceive ni k _ => isLoopNi ni && decide (k < 4)
  | .applyAckTimeout ni k => isLoopNi ni && decide (k < 4)
  | .releasedReceive => true
  | .reportDeadline k => decide (k < 4)
  | .abortNetTest => true
  | .abortNetPeriodicTest tree line => decide (tree < 2) && decide (line < 4)
  | .abortTestReturn tree line _ => decide (tree < 2) && decide (line < 4)
  | .abortTestTimeout tree line => decide (tree < 2) && decide (line < 4)
  | .lockstepMismatch => true
  | .csqLockstepReset => true
  | .frondSeal bank _ => decide (bank < 8)
  | .sealComplete bank => decide (bank < 8)
  | .frondRetire bank _ => decide (bank < 8)
  | .retireComplete bank => decide (bank < 8)
  | .recordForm => true
  | .checkpointForm _ => true
  | .checkpointTimer => true
  | .checkpointRequest => true
  | .checkpointHoldExpiry => true
  | .logDisable => true
  | .logEnable => true
  | .drainEnable _ => true
  | .drainSend => true
  | .tailRelease _ => true
  | .mgMapDistribute => true
  | .mgMapActivate => true
  | .windowRead _ => true
  | .windowWrite _ _ => true
  | .windowOpComplete => true
  | .swapSchedule => true
  | .swapCancel => true
  | .scrubRead r _ => decide (r < 12)
  | .correctionWriteBack _ => true
  | .bankWipe _ => true
  | .bankWipeComplete => true
  | .repeatClear => true
  | .eventReceive src cls => decide (src < 1024) && decide (cls < 16)
  | .ackTimerExpiry c => decide (c < 16)
  | .faultAck _ => true
  | .faultClear _ => true
  | .safeExit _ _ => true
  | .heldEventsSend => true
  | .collectorMismatch _ _ => true
  | .domainEntry _ => true
  | .domainEntryTest _ => true
  | .entryContinue d => decide (d < 25)
  | .sdEntry _ => true
  | .sdDrainTimeout => true
  | .selftestEnd d _ _ _ _ _ => decide (d < 24)
  | .domainWake _ _ => true
  | .wakePowerGood d _ => decide (d < 25)
  | .wakeInclude d => decide (d < 25)
  | .wakeTimeout d reason => decide (d < 25) && decide (1 ≤ reason) && decide (reason ≤ 4)
  | .wakeRetry d => decide (d < 25)
  | .wakePin k => decide (k < 4)
  | .wakeTimerFire => true
  | .portRelease _ => true
  | .railPgFall r => decide (r < 4)
  | .railTargetRequest _ => true
  | .railFallResume r => decide (r < 4)
  | .railConfirm r _ _ => decide (r < 4)
  | .railConfirmTimeout r _ => decide (r < 4)
  | .vfloorWrite _ => true
  | .smbalert _ => true
  | .imageRead => true
  | .laneSpare n p _ => isNode n && decide (p < 4) && (neighbour n p).isSome
  | .laneSpareSwitchRx n p => isNode n && decide (p < 4) && (neighbour n p).isSome
  | .laneWatchReset => true
  | .marginTrim n path _ _ => isNode n && hasPath n path
  | .counterSnapshot => true
  | .dumpComplete => true
  | .dumpOneShot => true
  | .periodDistribute _ => true
  | .periodActivate => true
  | .sampleClear ni => isNi ni
  | .powerOnReset => true
  | .fabricReset => true
  | .topSoftReset _ _ => true
  | .stwWdogExpiry _ => true
  | .resync _ _ => true
  | .cfgSave _ _ _ _ => true
  | .cfgErase _ _ => true
  | .epochRebuild _ _ => true
  | .isolate _ _ => true
  | .returnObject _ _ _ => true
  | .recordsRead _ _ => true
  | .lcPrepare _ _ _ => true
  | .lcPrepareDrained => true
  | .noiseRead _ _ => true
  | .mboxUnknown _ _ => true
  | .lcAdopt _ => true
  | .lcInvalid _ => true
  | .lcValidReturn => true
  | .cartInsert _ => true
  | .cartRemove _ => true
  | .anchorInstall _ => true
  | .wearCollect => true
  | .wearTransfer _ => true
  | .lifeWalk => true
  | .lifeWalkRequest => true
  | .pageCommit page => isPage page
  | .shadowDiscard page => isPage page
  | .registerWrite _ _ _ => true
  | .linkWireFault n p => isNode n && decide (p < 4) && (neighbour n p).isSome
  | .rhizineChainBreak n => isNode n
  | .porstRelease _ _ _ _ => true
  | .frstRelease _ => true
  | .pgRise r => decide (r < 4)
  | .pgMissingTimeout => true
  | .lpApplyAckFall ni => isLoopNi ni
  | .bothInvalidCheck ni k => isNi ni && decide (k < 4)
  | .walkComplete => true
  | .signatureVerifyEnd => true

end Sys2Proof
end

