-- ==== Sys2Proof/Safety.lean ====
section
/-! DEFINITION. What a safe run of the block is, and the words in which statements say what a command leaves alone. -/
namespace Sys2Proof.Machine

/-! ### The invariant -/

/-- The memories stand in their one canonical form, and every waiting command names objects that exist. -/
def State.inv (s : State) : Prop := s.mem.wf = true ∧ s.pending.all Instr.wellFormed = true

/-! ### Frames -/

/-- A kind of state that the spec gives the block. -/
inductive Part where
  | regs | live | cnt | events | time | tu | cells | nodes | nis | ports | csq | fs | evl | gt | mm | fc | pm | pr | stw
  | lc | cp | dbg | serial | pins | free
deriving DecidableEq, Repr

/-- A kind of state is in `b'` what it is in `b`. -/
def Part.same (b b' : Block) : Part → Prop
  | .regs => b'.regs = b.regs
  | .live => b'.live = b.live
  | .cnt => b'.cnt = b.cnt
  | .events => b'.events = b.events
  | .time => b'.now = b.now ∧ b'.elapsed = b.elapsed
  | .tu => b'.tu = b.tu
  | .cells => b'.cells = b.cells
  | .nodes => b'.nodes = b.nodes
  | .nis => b'.nis = b.nis
  | .ports => b'.ports = b.ports
  | .csq => b'.csq = b.csq
  | .fs => b'.fs = b.fs
  | .evl => b'.evl = b.evl
  | .gt => b'.gt = b.gt
  | .mm => b'.mm = b.mm
  | .fc => b'.fc = b.fc
  | .pm => b'.pm = b.pm
  | .pr => b'.pr = b.pr
  | .stw => b'.stw = b.stw
  | .lc => b'.lc = b.lc
  | .cp => b'.cp = b.cp
  | .dbg => b'.dbg = b.dbg
  | .serial => b'.lastCut = b.lastCut ∧ b'.spOut = b.spOut
  | .pins => b'.pins = b.pins
  | .free => b'.free = b.free

/-- Nothing but the named kinds of the units' state differs. -/
def Block.onlyParts (ps : List Part) (b b' : Block) : Prop := ∀ p, p ∉ ps → p.same b b'

/-- Of the register words, only those of the named pages and the PG_EV_PEND words (offset 0x018, where an event leaves its mark)
may differ. -/
def Block.onlyPages (pages : List Nat) (b b' : Block) : Prop :=
  ∀ p off, off < 4096 → p ∉ pages → off / 4 ≠ 6 → b'.rd p off = b.rd p off

/-- Of the register words, only the named ones (page, word-aligned offset) may differ. -/
def Block.onlyWords (words : List (Nat × Nat)) (b b' : Block) : Prop :=
  ∀ p off, off < 4096 → (p, off / 4 * 4) ∉ words → b'.rd p off = b.rd p off

/-- A command's answer `t` to `s`: the queue, every byte and flag of the memories, and every kind of state but `ps` stand as they were. -/
def State.unitsOnly (ps : List Part) (s t : State) : Prop :=
  t.pending = s.pending ∧ t.mem = s.mem ∧ Block.onlyParts ps s.blk t.blk

/-! ### Commands that touch no memory -/

/-- Commands whose effect lies in the units alone: they store to no memory of the block and clear none (07 R213; 08 R234; 11 R329). -/
def sparesMemory : Instr → Bool
  | .flitReceive _ _ _ | .creditReturn _ _ | .escapeWaitExpiry _ _ _ | .outputArbitration _ | .headAged _ _ | .slotBoundary
    | .arbActivation _ | .requestInject _ _ _ | .endpointResponse _ _ _ _ | .responseAccept _ | .responseDelivered _ _
    | .responseTimeout _ _ | .tagHoldExpiry _ _ | .sinkWdogExpiry _ _ | .sinkResume _ | .lpPwrOkFall _ | .lpPwrOkRise _
    | .msgQueueTaken _ | .hostEventDeliver _ | .serviceStatus | .serviceBadCommand _ | .debugAccess _ _ _ | .switchBroadcast
    | .epochDrained | .drainTimeout | .routeTableAudit _ | .nodeFlush _ _ _ | .refclkLock | .refclkLoss | .ppsMiss | .todExpiry
    | .stepApply | .tuTimeCapture | .latticeEdge | .latticeWordReceive _ _ | .cellSourceFault _ | .echoRound _ _ _ _ _ _
    | .latticeRevert | .latticeForceB _ | .timedStrobe _ | .ppsOutPulse _ | .prepareReceive _ | .stageReceive _ | .stageEndReceive _
    | .voteWaitExpiry _ _ | .recordNoPrepareExpiry _ _ | .recordNoTExpiry _ _ | .shadowLoadStart _ _ | .shadowLoadComplete _ _
    | .shadowLoadParityError _ _ | .voteReceive | .armReceive _ | .armAckReceive | .abortMsgReceive _ | .abortLineReceive _ _ _ _
    | .abortLineInvalid _ _ _ _ | .commitRelease _ _ | .ruleSetSwap _ | .applyAckReceive _ _ _ | .applyAckTimeout _ _
    | .releasedReceive | .reportDeadline _ | .abortNetTest | .abortNetPeriodicTest _ _ | .abortTestReturn _ _ _
    | .abortTestTimeout _ _ | .lockstepMismatch | .csqLockstepReset | .frondSeal _ _ | .checkpointTimer | .checkpointRequest
    | .checkpointHoldExpiry | .logDisable | .logEnable | .drainEnable _ | .tailRelease _ | .mgMapDistribute | .mgMapActivate
    | .windowRead _ | .windowWrite _ _ | .windowOpComplete | .swapSchedule | .swapCancel | .bankWipe _ | .repeatClear | .faultAck _
    | .faultClear _ | .safeExit _ _ | .heldEventsSend | .domainEntry _ | .domainEntryTest _ | .sdEntry _ | .sdDrainTimeout
    | .domainWake _ _ | .wakeTimeout _ _ | .wakeRetry _ | .wakePin _ | .wakeTimerFire | .portRelease _ | .railTargetRequest _
    | .railFallResume _ | .railConfirm _ _ _ | .railConfirmTimeout _ _ | .vfloorWrite _ | .smbalert _ | .laneSpare _ _ _
    | .laneWatchReset | .marginTrim _ _ _ _ | .counterSnapshot | .dumpComplete | .dumpOneShot | .periodDistribute _
    | .periodActivate | .sampleClear _ | .lcPrepareDrained | .lcInvalid _ | .lcValidReturn | .lifeWalk | .lifeWalkRequest
    | .pageCommit _ | .shadowDiscard _ | .linkWireFault _ _ | .rhizineChainBreak _ | .pgMissingTimeout | .lpApplyAckFall _
    | .bothInvalidCheck _ _ => true
  | _ => false

end Sys2Proof.Machine
end

