-- ==== Sys2Proof/Certificates/Slice0/Obligations.lean ====
section
/-! DEFINITION. The statements about the block, for the provers. -/
open Sys2Proof Sys2Proof.Machine

/-! ### Links and node arbitration (02 R26-R31; 03 R63, R88; 04 R92-R103; 14; 16 R469) -/

/-- FLIT_RECEIVE (R30, R31): a data flit that arrives unhurt at an NI joins the packet under assembly, its sender's acknowledge
frees the wires, and the NI owes one credit more; one that arrives unhurt at a node joins its packet in the buffer of its VC, and no credit is
owed while it stands there. CREDIT_RETURN (R31) raises the sender's credit on the VC by one and settles one credit of the receiver's
debt; with nothing owed it changes nothing. OUTPUT_ARBITRATION (R93, R95, R97): an output without owner whose wires are busy goes to its one
candidate, on whose input it parks from then on, unless that is an aged head within 256 ns of the last one granted; with an owner it stays
with that owner. -/
def Obligations.FlitsAndCredits : Prop :=
  (∀ (s : State) (i a : Nat) (src : Port) (f : Flit) (x : Asm),
    upstream (.ni i a) = some src → (s.blk.out src).driven = some f → (s.blk.out src).owner = none →
    Flit.isHead f = false → Flit.isLast f = false → Flit.vc f < 9 → AMap.get {} (s.blk.ni i).asm (vcKey a (Flit.vc f)) = x →
    x.flits ≠ [] → x.discard = false → x.flits.length < 17 →
    ∃ t, exec (.flitReceive (.ni i a) 0 []) s = .next t ∧
      AMap.get {} (t.blk.ni i).asm (vcKey a (Flit.vc f)) = { x with flits := x.flits ++ [f] } ∧
      t.blk.owedAt (.ni i a) (Flit.vc f) = s.blk.owedAt (.ni i a) (Flit.vc f) + 1 ∧
      (t.blk.out src).driven = none ∧ (∀ j, j ≠ i → t.blk.ni j = s.blk.ni j) ∧ s.unitsOnly [.cnt, .nodes, .nis] t) ∧
  (∀ (s : State) (n q : Nat) (src : Port) (f : Flit) (r : RxPkt),
    upstream (.node n q) = some src → portExists n q = true → (s.blk.out src).driven = some f → (s.blk.out src).owner = none →
    s.blk.wrongWires (.node n q) f 0 s.blk.fresh.1 = [] → s.blk.idleSpare (.node n q) = false → s.blk.portOn n q = true →
    Flit.isHead f = false → Flit.isLast f = false → Flit.vc f < 9 → (s.blk.buf n q (Flit.vc f)).rx = some r → r.discard = false →
    r.nData < 16 → (s.blk.buf n q (Flit.vc f)).front ≠ none → s.blk.on pgMM MM_FLIPMASK_ARM = false →
    ∃ t, exec (.flitReceive (.node n q) 0 []) s = .next t ∧
      (t.blk.buf n q (Flit.vc f)).flits = (s.blk.buf n q (Flit.vc f)).flits ++ [(f, [])] ∧
      (t.blk.buf n q (Flit.vc f)).rx = some { r with nData := r.nData + 1 } ∧
      (∀ v, t.blk.owedAt (.node n q) v = s.blk.owedAt (.node n q) v) ∧
      (t.blk.out src).driven = none ∧ s.unitsOnly [.cnt, .nodes, .nis] t) ∧
  (∀ (s : State) (o r : Port) (v : Nat), portOk o = true → downstream o = some r → v < 9 →
    ∃ t, exec (.creditReturn o v) s = .next t ∧
      (s.blk.owedAt r v ≠ 0 → (t.blk.out o).credit v = (s.blk.out o).credit v + 1 ∧ t.blk.owedAt r v = s.blk.owedAt r v - 1) ∧
      (s.blk.owedAt r v = 0 → t = s) ∧ s.unitsOnly [.nodes, .nis] t) ∧
  (∀ (s : State) (n p : Nat) (f : Flit), portExists n p = true → (s.blk.out (.node n p)).driven = some f →
    ∃ t, exec (.outputArbitration (.node n p)) s = .next t ∧
      (∀ c, (s.blk.out (.node n p)).owner = none → s.blk.candidates n p = [c] →
        (s.blk.grantable (s.blk.out (.node n p)) c = true →
          (t.blk.out (.node n p)).owner = some (c.q, c.v) ∧ (t.blk.out (.node n p)).parked = some c.q) ∧
        (s.blk.grantable (s.blk.out (.node n p)) c = false → (t.blk.out (.node n p)).owner = none)) ∧
      ((s.blk.out (.node n p)).owner ≠ none → (t.blk.out (.node n p)).owner = (s.blk.out (.node n p)).owner) ∧
      (t.blk.out (.node n p)).driven = some f ∧ (∀ m, m ≠ n → t.blk.node m = s.blk.node m) ∧
      Block.onlyWords [(pgNode n, 0x060)] s.blk t.blk ∧ s.unitsOnly [.regs, .live, .cnt, .nodes, .stw] t)

/-- ESCAPE_WAIT_EXPIRY (R63): a waiting head on a normal VC may take the escape VC once ESC_WAIT units of 8 ns have gone by.
HEAD_AGED (R97, R98): a head that has been a candidate for AGE becomes aged, in a node and at an injection link; RSP heads never do
(log 94: without a break). SLOT_BOUNDARY (R101): device time stands on the next multiple of 16 ns (log 96: the TU's own). ARB_ACTIVATION
(R103): from the activation instant on, by the node's cell, the live profiles, AGE and slot tables are the shadow ones. -/
def Obligations.NodeTimers : Prop :=
  (∀ (s : State) (n q v : Nat) (f : Front), portExists n q = true → v < 9 → (s.blk.buf n q v).front = some f →
    f.started = false → f.onEsc = false → f.mayEsc = false →
    ∃ t, exec (.escapeWaitExpiry n q v) s = .next t ∧
      (t.blk.buf n q v).front.map (fun g => g.mayEsc) = some true ∧ (t.blk.buf n q v).flits = (s.blk.buf n q v).flits ∧
      t.blk.elapsed = max s.blk.elapsed (f.since + f.escWait * 2048) ∧ (∀ m, m ≠ n → t.blk.node m = s.blk.node m) ∧
      s.unitsOnly [.cnt, .time, .nodes] t) ∧
  (∀ (s : State) (n q v since : Nat) (f : Front), portExists n q = true → v < 9 → (s.blk.buf n q v).front = some f →
    f.started = false → f.cand = some since →
    ∃ t, exec (.headAged (.node n q) v) s = .next t ∧
      (f.cls ≠ cRSP → (t.blk.buf n q v).front = some { f with aged := true } ∧
        t.blk.elapsed = max s.blk.elapsed (since + s.blk.ageLimit n)) ∧
      (f.cls = cRSP → t = s) ∧ (∀ m, m ≠ n → t.blk.node m = s.blk.node m) ∧ s.unitsOnly [.cnt, .time, .nodes] t) ∧
  (∀ (s : State) (i a c since : Nat) (p : Packet) (ps : List Packet), portOk (.ni i a) = true → 1 ≤ c → c ≤ 4 →
    AMap.get none (s.blk.ni i).injCand c = some since → (s.blk.ni i).queue c = p :: ps → s.blk.attachFor i p = a →
    ∃ t, exec (.headAged (.ni i a) (c + 2)) s = .next t ∧ AMap.get false (t.blk.ni i).injAged c = true ∧
      (t.blk.ni i).queue c = p :: ps ∧ t.blk.elapsed = max s.blk.elapsed (since + s.blk.ageLimit (facing i a).1) ∧
      (∀ j, j ≠ i → t.blk.ni j = s.blk.ni j) ∧ s.unitsOnly [.cnt, .time, .nis] t) ∧
  (∀ s : State, ∃ t, exec .slotBoundary s = .next t ∧ t.blk.now = (s.blk.now / 4096 + 1) * 4096 ∧ t.blk.nowNs % 16 = 0 ∧
    s.unitsOnly [.cnt, .time] t) ∧
  (∀ (s : State) (n at' : Nat), n < 112 → (s.blk.node n).arbAt = some at' →
    ∃ t, exec (.arbActivation n) s = .next t ∧ s.blk.now ≤ t.blk.now ∧ at' * 256 ≤ t.blk.cellNow n ∧
      (∀ p, p < 4 → t.blk.rdLive (pgNode n) (0x060 + 4 * p) = s.blk.rd (pgNode n) (0x060 + 4 * p)) ∧
      (∀ k, k < 28 → t.blk.rdLive (pgNode n) (0x080 + 4 * k) = s.blk.rd (pgNode n) (0x080 + 4 * k)) ∧
      t.blk.on (pgNode n) NODE_ARB_PEND = false ∧ (t.blk.node n).arbAt = none ∧ (∀ m, m ≠ n → t.blk.node m = s.blk.node m) ∧
      t.blk.stw = { s.blk.stw with floorDue := true } ∧
      Block.onlyWords [(pgNode n, 0x060)] s.blk t.blk ∧ s.unitsOnly [.regs, .live, .cnt, .time, .nodes, .stw] t)

/-- NODE_FLUSH (R72, R88): after an honoured flush of an epoch no input VC of the node, whose stored flits have no wrong bit, holds the head
of a packet of that epoch; one of the current epoch is ignored, but in a spine node whose SD drains. LINK_WIRE_FAULT (R29): the port's FAULT
bit is set, the link is isolated, and the node's event waits. RHIZINE_CHAIN_BREAK (R469): the steward holds the break, and the node's event
waits. -/
def Obligations.FlushAndBreaks : Prop :=
  (∀ (s : State) (n e : Nat) (even odd : Bool), n < 112 → e < 2 → (if e = 0 then even else odd) = true →
    s.blk.flushAllowed n e = true →
    (∀ q, q < 7 → ∀ v, v < 9 → ∀ h ∈ (s.blk.buf n q v).flits, h.2 = []) →
    ∃ t, exec (.nodeFlush n even odd) s = .next t ∧
      (∀ q v, q < 7 → v < 9 → ∀ h ∈ (t.blk.buf n q v).flits, Flit.isHead h.1 = true → (packetOf (Flit.payload h.1)).rep ≠ e) ∧
      (∀ m, m ≠ n → t.blk.node m = s.blk.node m) ∧ Block.onlyPages [pgNode n] s.blk t.blk ∧ s.unitsOnly [.regs, .events, .nodes] t) ∧
  (∀ (s : State) (n e : Nat), n < 112 → e = s.blk.nodeCur n → isSpine n = false ∨ s.blk.domPhase domSD ≠ 2 →
    exec (.nodeFlush n (e == 0) (e == 1)) s = .next s) ∧
  (∀ (s : State) (n p j : Nat), n < 112 → p < 4 → linkIndex n p = some j → s.blk.pageUp (pgNode n) = true →
    ∃ t, exec (.linkWireFault n p) s = .next t ∧ t.blk.on (pgNode n) ⟨0x04C, 8 + p, 1⟩ = true ∧ t.blk.isolated 0 j = true ∧
      t.blk.evRaw (srcNode n 0) = true ∧ t.mem = s.mem ∧ t.pending = s.pending) ∧
  (∀ (s : State) (n : Nat), n < 112 → s.blk.stw.brk = none →
    ∃ t, exec (.rhizineChainBreak n) s = .next t ∧ t.blk.stw = { s.blk.stw with brk := some n } ∧ t.blk.evRaw (srcNode n 1) = true ∧
      Block.onlyWords [(pgNode n, 0x018)] s.blk t.blk ∧ s.unitsOnly [.regs, .events, .stw] t)

/-! ### Network interfaces (02 R35-R50; 09 R269-R290) -/

/-- REQUEST_INJECT (R35, R75, R269-R271, R273): a legal non-posted request to a REACHABLE target whose tag and space are there takes the
lowest free tag, is outstanding, and stands as a packet in its class queue; its timer waits until the head leaves. RESPONSE_ACCEPT (R46,
R47): the response goes with its bytes to the transaction of its TAG. RESPONSE_DELIVERED (R272, R277, R278): the endpoint has taken it off
the response channel, and the transaction is no more. -/
def Obligations.Transactions : Prop :=
  (∀ (s : State) (i tag d : Nat) (r : Request), i < 216 → s.blk.canPresent i = true →
    AMap.get [] (s.blk.ni i).waitq r.cls = [] → takesTag r.opc = true → freeTag i (s.blk.ni i) = some tag →
    (s.blk.ni i).spaceUsed + spaceFor r ≤ rspSpace i → requestDst r = some d → requestOk i r = true →
    s.blk.niShut i = false → s.blk.reach i d = rchOK →
    ∃ t, exec (.requestInject i r.cls (some r)) s = .next t ∧
      (∃ x ∈ (t.blk.ni i).txns, x.tag = tag ∧ x.req = r ∧ x.injected = true ∧ x.rsp = none ∧ x.issued = none) ∧
      (t.blk.ni i).queue r.cls = (s.blk.ni i).queue r.cls ++ [s.blk.requestPacket i d tag r] ∧
      AMap.get [] (t.blk.ni i).waitq r.cls = [] ∧ (∀ j, j ≠ i → t.blk.ni j = s.blk.ni j) ∧ s.unitsOnly [.cnt, .nis] t) ∧
  (∀ (s : State) (i : Nat) (p : Packet) (rest : List Packet) (x : Txn), i < 216 →
    takeFirst (fun q => isResponse q.opc) (s.blk.ni i).rx = some (p, rest) →
    (s.blk.ni i).txns.find? (fun y => y.awaits p.tag) = some x → p.flits.length = dataFlitCount p.opc p.len p.status →
    p.status < 12 → p.poisoned = false → s.blk.stuck i = false →
    ∃ t, exec (.responseAccept i) s = .next t ∧ (t.blk.ni i).rx = rest ∧
      (t.blk.ni i).txns = (s.blk.ni i).txns.erase x ++
        [{ x with rsp := some ⟨p.status, p.bytes (min (x.req.len + 1) (16 * p.flits.length)), p, s.blk.elapsed⟩ }] ∧
      (∀ j, j ≠ i → t.blk.ni j = s.blk.ni j) ∧ s.unitsOnly [.nis] t) ∧
  (∀ (s : State) (i tag : Nat) (x : Txn), i < 216 → s.blk.stuck i = false → (s.blk.ni i).ended = [] →
    (s.blk.ni i).txns.find? (fun y => y.tag == tag && y.rsp.isSome) = some x →
    ∃ t r, exec (.responseDelivered i tag) s = .next t ∧ x.rsp = some r ∧ (t.blk.ni i).txns = (s.blk.ni i).txns.erase x ∧
      (t.blk.ni i).outRsp = some (rspBeat i x r) ∧ AMap.get 0 (t.blk.ni i).passed 2 = s.blk.elapsed ∧
      (∀ j, j ≠ i → t.blk.ni j = s.blk.ni j) ∧ s.unitsOnly [.regs, .cnt, .nis, .dbg] t) ∧
  (∀ (s : State) (i tag : Nat) (x : Txn), i < 216 → s.blk.stuck i = false → (s.blk.ni i).ended.find? (fun y => y.tag == tag) = some x →
    ((s.blk.ni i).ended.any (fun y => y.stuck) = true → (s.blk.ni i).ended.find? (fun y => y.stuck && y.tag == tag) = some x) →
    ∃ t, exec (.responseDelivered i tag) s = .next t ∧ (t.blk.ni i).ended = (s.blk.ni i).ended.erase x ∧
      (t.blk.ni i).outRsp = some (rspBeat i x (x.rsp.getD (abortRsp x s.blk.elapsed))) ∧
      (∀ j, j ≠ i → t.blk.ni j = s.blk.ni j) ∧ s.unitsOnly [.regs, .cnt, .nis, .dbg] t)

/-- R48: a requester NI delivers to its endpoint the status POISONED, in place of the status in the header, if any data flit of an RSP_RD
arrives with POISON = 1; here for an endpoint that takes responses (09 R275). -/
def Obligations.PoisonedReadResponse : Prop :=
  ∀ (s : State) (i : Nat) (p : Packet) (rest : List Packet) (x : Txn), i < 216 →
    takeFirst (fun q => isResponse q.opc) (s.blk.ni i).rx = some (p, rest) →
    (s.blk.ni i).txns.find? (fun y => y.awaits p.tag) = some x → p.opc = oRSP_RD →
    p.flits.length = dataFlitCount p.opc p.len p.status → p.poisoned = true → s.blk.stuck i = false →
    ∃ t, exec (.responseAccept i) s = .next t ∧ (t.blk.ni i).rx = rest ∧
      (t.blk.ni i).txns = (s.blk.ni i).txns.erase x ++
        [{ x with rsp := some ⟨stPOISON, p.bytes (min (x.req.len + 1) (16 * p.flits.length)), p, s.blk.elapsed⟩ }] ∧
      (∀ j, j ≠ i → t.blk.ni j = s.blk.ni j) ∧ s.unitsOnly [.nis] t

/-- RESPONSE_TIMEOUT (R273): when the timer of an injected request has run out, its transaction ends ABORTED, its space is free and its tag
rests 2 ms. TAG_HOLD_EXPIRY (R273): when the rest is over the tag is free again. -/
def Obligations.ResponseTimers : Prop :=
  (∀ (s : State) (i tag t0 : Nat) (x : Txn), i < 216 →
    (s.blk.ni i).txns.find? (fun y => y.awaits tag && y.issued.isSome) = some x → x.issued = some t0 → s.blk.stuck i = false →
    ∃ t, exec (.responseTimeout i tag) s = .next t ∧ t.blk.elapsed = max s.blk.elapsed (t0 + x.limit) ∧
      (t.blk.ni i).txns = (s.blk.ni i).txns.erase x ∧
      (t.blk.ni i).ended = (s.blk.ni i).ended ++ [{ x with rsp := some (abortRsp x t.blk.elapsed), space := 0, stuck := false }] ∧
      (abortRsp x t.blk.elapsed).status = stABORT ∧
      (t.blk.ni i).heldTags = (s.blk.ni i).heldTags ++ [(tag, t.blk.elapsed + 512000000)] ∧
      (∀ j, j ≠ i → t.blk.ni j = s.blk.ni j) ∧ s.unitsOnly [.cnt, .time, .nis] t) ∧
  (∀ (s : State) (i tag : Nat) (h : Nat × Nat), i < 216 → (s.blk.ni i).heldTags.find? (fun z => z.1 == tag) = some h →
    ∃ t, exec (.tagHoldExpiry i tag) s = .next t ∧ t.blk.elapsed = max s.blk.elapsed h.2 ∧
      t.blk.ni i = { s.blk.ni i with heldTags := (s.blk.ni i).heldTags.filter (fun z => z.1 != tag) } ∧
      (∀ j, j ≠ i → t.blk.ni j = s.blk.ni j) ∧ s.unitsOnly [.cnt, .time, .nis] t)

/-- REQUEST_DELIVER (R39, R50): a PROBE is answered OK by the NI itself. ENDPOINT_RESPONSE (R288): the endpoint's status goes back
to the requester; one that R288 does not allow goes back as DECODE. MSG_QUEUE_TAKEN (R286, R289): the oldest message leaves the queue
in its beats and is answered OK. BANK_PORT_GRANT (R107, R109): the winner, of the highest QOS but at every sixteenth grant, which goes to
the one that has waited longest, leaves the port's queue, and the grant parks on its requester. -/
def Obligations.TargetsAndBanks : Prop :=
  (∀ (s : State) (i : Nat) (p : Packet) (rest : List Packet), i < 216 →
    takeFirst (fun q => q.isRequest i && !(q.forEndpoint && s.blk.resuming i)) (s.blk.ni i).rx = some (p, rest) → p.opc = oPROBE →
    p.flits = [] →
    ∃ t, exec (.requestDeliver i) s = .next t ∧ (t.blk.ni i).rx = rest ∧
      (∃ r, (t.blk.ni i).queue cRSP = (s.blk.ni i).queue cRSP ++ [r] ∧ r.dst = p.src ∧ r.tag = p.tag ∧ r.status = stOK ∧
        r.opc = oRSP_MSG) ∧ (∀ j, j ≠ i → t.blk.ni j = s.blk.ni j) ∧ s.unitsOnly [.cnt, .nis] t) ∧
  (∀ (s : State) (i idx st : Nat) (data : List Byte) (p : Packet), i < 216 → st < 16 → (s.blk.ni i).toEnd[idx]? = some p →
    ∃ t, exec (.endpointResponse i idx st data) s = .next t ∧ (t.blk.ni i).toEnd = (s.blk.ni i).toEnd.eraseIdx idx ∧
      (∃ r, (t.blk.ni i).queue cRSP = (s.blk.ni i).queue cRSP ++ [r] ∧ r.dst = p.src ∧ r.tag = p.tag ∧
        r.status = (if endStatusOk i st then st else stDECODE)) ∧
      (endStatusOk i st = false → t.blk.evRaw (srcNi i 0) = true) ∧ (endStatusOk i st = true → t.blk.events = s.blk.events) ∧
      (∀ j, j ≠ i → t.blk.ni j = s.blk.ni j) ∧ Block.onlyWords [(pgNi i, 0x018)] s.blk t.blk ∧
      s.unitsOnly [.regs, .cnt, .events, .nis] t) ∧
  (∀ (s : State) (hp : Nat) (p : Packet) (rest : List Packet), hp < 4 → (s.blk.ni (200 + hp)).msgq = p :: rest →
    s.blk.resuming (200 + hp) = false →
    ∃ t, exec (.msgQueueTaken hp) s = .next t ∧ (t.blk.ni (200 + hp)).msgq = rest ∧
      (t.blk.ni (200 + hp)).outMsg = p.headNat :: dataBeats 32 (p.bytes (p.len + 1)) ∧
      (∃ r, (t.blk.ni (200 + hp)).queue cRSP = (s.blk.ni (200 + hp)).queue cRSP ++ [r] ∧ r.dst = p.src ∧ r.tag = p.tag ∧
        r.status = stOK) ∧ (∀ j, j ≠ 200 + hp → t.blk.ni j = s.blk.ni j) ∧ s.unitsOnly [.cnt, .nis] t) ∧
  (∀ (s : State) (m : MemPort) (asks : List Nat) (ws : List MemTxn) (x : MemTxn), memPortOk m = true → asksOk m asks = true →
    ws = s.blk.waitingAt m ++ asks.map (fun a => { who := a, qos := masterQos a, job := .own }) →
    (s.blk.port (portKey m)).pick ws = some x →
    ∃ t, exec (.bankPortGrant m asks) s = .next t ∧
      ((s.blk.port (portKey m)).grants % 16 ≠ 15 → ∀ y ∈ ws, y.qos ≤ x.qos) ∧
      ((s.blk.port (portKey m)).grants % 16 = 15 → ws.head? = some x) ∧
      (∀ p, x.job = .access p → (t.blk.port (queueKey m)).wait = (s.blk.port (queueKey m)).wait.erase x) ∧
      (t.blk.port (portKey m)).parked = some x.who ∧
      (t.blk.port (portKey m)).grants = ((s.blk.port (portKey m)).grants + 1) % 16 ∧ t.pending = s.pending)

/-- SINK_WDOG_EXPIRY (R274, R275): an endpoint that has left an offered beat for 2 µs is marked stuck with the cause, what the NI held for it
is discarded, and its event waits. SINK_RESUME (R277), with the engine's power there: the mark goes, and what was marked ends ABORTED.
LP_PWR_OK_FALL (R283): the port is stuck for want of power, with cause 6. LP_PWR_OK_RISE (R283): it is no more. While the domain is not
powered only the pin changes (R284). -/
def Obligations.SinkWatchdog : Prop :=
  (∀ (s : State) (i cause t0 : Nat), i < 216 → s.blk.niUp i = true → s.blk.stuck i = false → s.blk.offered i cause = some t0 →
    ∃ t, exec (.sinkWdogExpiry i cause) s = .next t ∧ t.blk.on (pgNi i) NI_SINK_WDOG_STUCK = true ∧
      t.blk.g (pgNi i) NI_SINK_WDOG_CAUSE = cause ∧ (t.blk.ni i).toEnd = [] ∧ (t.blk.ni i).msgq = [] ∧ (t.blk.ni i).msi = [] ∧
      (∀ x ∈ (t.blk.ni i).txns, x.rsp = none) ∧ (∀ p ∈ (t.blk.ni i).rx, p.forEndpoint = false ∧ isResponse p.opc = false) ∧
      t.blk.evRaw (srcNi i 1) = true ∧ t.blk.elapsed = max s.blk.elapsed (t0 + 512000) ∧ (∀ j, j ≠ i → t.blk.ni j = s.blk.ni j) ∧
      Block.onlyPages [pgNi i] s.blk t.blk ∧ s.unitsOnly [.regs, .cnt, .events, .time, .nis] t) ∧
  (∀ (s : State) (i : Nat), i < 216 → s.blk.niUp i = true → s.blk.stuck i = true → s.blk.lpDown i = false →
    ∃ t, exec (.sinkResume i) s = .next t ∧ t.blk.stuck i = false ∧
      t.blk.ni i = { s.blk.ni i with ended := (s.blk.ni i).ended.map (fun x =>
        if x.stuck then { x with rsp := some (abortRsp x s.blk.elapsed) } else x) } ∧
      (∀ j, j ≠ i → t.blk.ni j = s.blk.ni j) ∧ Block.onlyWords [(pgNi i, 0x050)] s.blk t.blk ∧ s.unitsOnly [.regs, .nis] t) ∧
  (∀ (s : State) (i : Nat), i < 192 → s.blk.lpPwr i = true →
    ∃ t, exec (.lpPwrOkFall i) s = .next t ∧ (∀ j, j < 192 → t.blk.lpPwr j = (s.blk.lpPwr j && j != i)) ∧
      (s.blk.niUp i = true → t.blk.stuck i = true ∧ t.blk.g (pgNi i) NI_SINK_WDOG_CAUSE = 6 ∧ t.blk.evRaw (srcNi i 1) = true ∧
        (s.blk.stuck i = false → t.blk.on (pgNi i) NI_SINK_WDOG_STUCK = true ∧ (t.blk.ni i).toEnd = [])) ∧
      (s.blk.niUp i = false → s.unitsOnly [.pins] t) ∧ (∀ j, j ≠ i → t.blk.ni j = s.blk.ni j) ∧
      Block.onlyPages [pgNi i] s.blk t.blk ∧ s.unitsOnly [.regs, .cnt, .events, .nis, .pins] t) ∧
  (∀ (s : State) (i : Nat), i < 192 → s.blk.lpPwr i = false →
    ∃ t, exec (.lpPwrOkRise i) s = .next t ∧ t.blk.lpPwr i = true ∧ (∀ j, j < 192 → j ≠ i → t.blk.lpPwr j = s.blk.lpPwr j) ∧
      (s.blk.niUp i = true → t.blk.stuck i = false ∧ t.blk.g (pgNi i) NI_SINK_WDOG_CAUSE = 0) ∧
      (s.blk.niUp i = false → s.unitsOnly [.pins] t) ∧ (∀ j, j ≠ i → t.blk.ni j = s.blk.ni j) ∧
      Block.onlyWords [(pgNi i, 0x050)] s.blk t.blk ∧ s.unitsOnly [.regs, .nis, .pins] t)

/-- HOST_EVENT_DELIVER (R290): the EVENT leaves the receive queue and sets its line's PEND; in message mode one write waits for the line.
IMAGE_READ (R407): the PM answers a read of a page that is not ON from the image of its domain. -/
def Obligations.HostEvents : Prop :=
  (∀ (s : State) (hp line : Nat) (p : Packet) (rest : List Packet), hp < 4 →
    takeFirst (fun q => q.opc == oEVENT) (s.blk.ni (200 + hp)).rx = some (p, rest) → line = leNat (p.bytes 1) % 4 →
    ∃ t, exec (.hostEventDeliver hp) s = .next t ∧ (t.blk.ni (200 + hp)).rx = rest ∧
      (∀ k, k < 4 → bit (t.blk.g (pgNi (200 + hp)) NI_HP_IRQ_PEND) k =
        (bit (s.blk.g (pgNi (200 + hp)) NI_HP_IRQ_PEND) k || k == line)) ∧
      (bit (s.blk.g (pgNi (200 + hp)) NI_HP_IRQ_MODE) line = false → (t.blk.ni (200 + hp)).msi = (s.blk.ni (200 + hp)).msi) ∧
      (bit (s.blk.g (pgNi (200 + hp)) NI_HP_IRQ_MODE) line = true → s.blk.stuck (200 + hp) = false →
        (s.blk.ni (200 + hp)).msi = [] → (t.blk.ni (200 + hp)).msi =
          [{ line := line, off := (s.blk.rd (pgNi (200 + hp)) (NI_HP_MSI_ADDR line)).toNat,
             data := (s.blk.rd (pgNi (200 + hp)) (NI_HP_MSI_DATA line)).toNat, since := s.blk.elapsed }]) ∧
      (∀ j, j ≠ 200 + hp → t.blk.ni j = s.blk.ni j) ∧
      Block.onlyWords [(pgNi (200 + hp), 0x080)] s.blk t.blk ∧ s.unitsOnly [.regs, .nis] t) ∧
  (∀ (s : State) (p : Packet) (rest : List Packet) (pg off : Nat), takeFirst Packet.forImage (s.blk.ni 212).rx = some (p, rest) →
    area p.addr = .page pg off → s.blk.safeRefuses p = false → s.blk.on pgPM (PM_DOMAIN_IMG_VALID (domOfPage pg)) = true →
    p.flits = [] → pageShape pg off p.len = true → p.peri = stOK →
    ∃ t, exec .imageRead s = .next t ∧ (t.blk.ni 212).rx = rest ∧
      (∃ r, (t.blk.ni 212).queue cRSP = (s.blk.ni 212).queue cRSP ++ [r] ∧ r.dst = p.src ∧ r.tag = p.tag ∧ r.status = stOK ∧
        r.flits = packData ((List.range ((p.len + 1) / 4)).flatMap (fun j =>
          leBytes 4 (s.blk.imageWord (domOfPage pg) pg (off + 4 * j)).toNat)) (ceilDiv (p.len + 1) 16)) ∧
      (∀ j, j ≠ 212 → t.blk.ni j = s.blk.ni j) ∧ s.unitsOnly [.cnt, .nis] t)

/-! ### The service and debug ports (09 R291-R295; 19 R541) -/

/-- SERVICE_READ and SERVICE_WRITE (R291-R293): a READ of a page that the port reaches and the peristome grants returns the status OK and the
page's bytes; a WRITE stores its words and returns the status; an access that is refused returns its status alone, and so does one of a target
that the port does not reach, DECODE. SERVICE_STATUS, SERVICE_BAD_COMMAND (R293): the status byte, and DECODE. SERVICE_FRAME_CUT (R294): a
frame that ends before its command is whole leaves only LAST_CUT behind; a READ from its byte 7 on and a WRITE with all its data have their
effect all the same. DEBUG_ACCESS (R541): with SD ON and nothing in progress the register takes the access, which is under way; with SD not ON
its status is OFF; while one is in progress only the register's fields change. While PORST_N is low none of them does anything. -/
def Obligations.ServiceAndDebugPorts : Prop :=
  (∀ (s : State) (addr len p off : Nat), addr < 2 ^ 48 → len < 256 → s.blk.pins.porst = true → area addr = .page p off →
    servicePage p = true → addressCheck (servingNi p) oRD addr len = stOK →
    s.blk.accessVerdict (servingNi p) none 0 true oRD addr len = stOK →
    ∃ t, exec (.serviceRead addr len) s = .next t ∧ t.blk.lastCut = false ∧
      t.blk.spOut = 0xA0 :: (Sys.readPage { blk := s.blk, mem := s.mem } p off (len + 1)).1 ∧
      Block.onlyWords [(pgTU, 0x040), (pgTU, 0x044), (pgTU, 0x048)] s.blk t.blk ∧ s.unitsOnly [.regs, .serial] t) ∧
  (∀ (s : State) (addr p off : Nat) (data : List Byte), addr < 2 ^ 48 → 0 < data.length → data.length ≤ 256 →
    s.blk.pins.porst = true → area addr = .page p off → servicePage p = true →
    addressCheck (servingNi p) oWR addr (data.length - 1) = stOK →
    s.blk.accessVerdict (servingNi p) none 0 true oWR addr (data.length - 1) = stOK →
    ∃ t, exec (.serviceWrite addr data) s = .next t ∧ t.blk.lastCut = false ∧ t.blk.spOut = [0xA0] ∧
      t.blk = ({ blk := s.blk, mem := s.mem : Sys }.pageWrite serviceWriter p off (wordsFrom data)).blk.frameDone false [0xA0] ∧
      t.pending = s.pending) ∧
  (∀ (s : State) (addr len i st : Nat), addr < 2 ^ 48 → len < 256 → s.blk.pins.porst = true → serviceNi addr = some i → st ≠ stOK →
    st = (if addressCheck i oRD addr len = stOK then s.blk.accessVerdict i none 0 true oRD addr len else addressCheck i oRD addr len) →
    ∃ t, exec (.serviceRead addr len) s = .next t ∧ t.blk.lastCut = false ∧ t.blk.spOut = [BitVec.ofNat 8 (0xA0 + st)] ∧
      (st = stDENIED ∨ st = stLOCKED → t.blk.on (pgNi i) ⟨0x018, evBit (srcNi i 0), 1⟩ = true) ∧
      Block.onlyWords [(pgNi i, 0x018)] s.blk t.blk ∧ s.unitsOnly [.regs, .events, .evl, .serial] t) ∧
  (∀ (s : State) (addr len : Nat), addr < 2 ^ 48 → len < 256 → s.blk.pins.porst = true → serviceNi addr = none →
    ∃ t, exec (.serviceRead addr len) s = .next t ∧ t.blk.lastCut = false ∧ t.blk.spOut = [0xA3] ∧ s.unitsOnly [.serial] t) ∧
  (∀ s : State, s.blk.pins.porst = true → ∃ t, exec .serviceStatus s = .next t ∧ t.blk.lastCut = false ∧
      t.blk.spOut = [BitVec.ofNat 8 (0x50 + (if s.blk.lastCut then 2 else 0) + (if s.blk.domState domSD = 0 then 1 else 0))] ∧
      s.unitsOnly [.serial] t) ∧
  (∀ (s : State) (cmd : Nat), cmd < 256 → cmd ≠ 2 → cmd ≠ 3 → cmd ≠ 5 → s.blk.pins.porst = true →
    ∃ t, exec (.serviceBadCommand cmd) s = .next t ∧ t.blk.lastCut = false ∧ t.blk.spOut = [0xA3] ∧ s.unitsOnly [.serial] t) ∧
  (∀ (s : State) (c : Cut), cutOk c = true → s.blk.pins.porst = true →
    c = .beforeCommand ∨ (∃ addr len n out, c = .read addr len n out ∧ n < 8) ∨
      (∃ addr len data, c = .write addr len data ∧ data.length ≤ len) →
    ∃ t, exec (.serviceFrameCut c) s = .next t ∧ t.blk.lastCut = true ∧ t.blk.spOut = [] ∧ s.unitsOnly [.serial] t) ∧
  (∀ (s : State) (addr len n : Nat) (out : Bool), addr < 2 ^ 48 → len < 256 → s.blk.pins.porst = true → 8 ≤ n →
    ∃ t u, exec (.serviceFrameCut (.read addr len n out)) s = .next t ∧ exec (.serviceRead addr len) s = .next u ∧
      t = { u with blk := u.blk.frameDone true (if out then u.blk.spOut else []) }) ∧
  (∀ (s : State) (addr len : Nat) (data : List Byte), addr < 2 ^ 48 → len < 256 → s.blk.pins.porst = true → len < data.length →
    ∃ t u, exec (.serviceFrameCut (.write addr len data)) s = .next t ∧
      exec (.serviceWrite addr (data.take (len + 1))) s = .next u ∧ t = { u with blk := u.blk.frameDone true u.blk.spOut }) ∧
  (∀ (s : State) (addr : Nat) (data : Word) (wr : Bool), addr < 2 ^ 48 → s.blk.pins.porst = true →
    ∃ t, exec (.debugAccess addr data wr) s = .next t ∧
      (s.blk.dbg.busy = true → t.blk.dbg = { s.blk.dbg with addr := addr, data := data, wr := wr } ∧ s.unitsOnly [.dbg] t) ∧
      (s.blk.dbg.busy = false → s.blk.domState domSD ≠ 0 →
        t.blk.dbg = { addr := addr, data := data, wr := wr, busy := false, status := stOFF } ∧ s.unitsOnly [.dbg] t) ∧
      (s.blk.dbg.busy = false → s.blk.domState domSD = 0 → s.blk.niUp 215 = true →
        t.blk.dbg = { addr := addr, data := data, wr := wr, busy := true, status := s.blk.dbg.status } ∧
        (∀ j, j ≠ 215 → t.blk.ni j = s.blk.ni j) ∧ t.mem = s.mem ∧ t.pending = s.pending)) ∧
  (∀ (s : State) (c : Instr), s.blk.pins.porst = false → c.wellFormed = true →
    (∃ addr len, c = .serviceRead addr len) ∨ (∃ addr data, c = .serviceWrite addr data) ∨ c = .serviceStatus ∨
      (∃ cmd, c = .serviceBadCommand cmd) ∨ (∃ x, c = .serviceFrameCut x) ∨ (∃ addr data wr, c = .debugAccess addr data wr) →
    exec c s = .next s)

/-! ### Epoch changes (03 R64-R73, R545) -/

/-- EPOCH_CHANGE_START (R64-R68): a change that nothing refuses and nothing makes wait is loaded; the steward is at step 4 with the live
set that it computed, and its queue is one shorter; one that must wait waits at the head of the queue. EPOCH_VERIFY (R68 step 4): with every
word read back and every PROBE answered the change goes to step 5. SWITCH_BROADCAST (R68 step 5): the epoch number counts on, every powered
node takes its parity, the NIs that step 2 found live are LIVE, and the change goes to step 6. -/
def Obligations.EpochChange : Prop :=
  (∀ (s : State) (c : Cause) (rest : List Cause) (b : Block) (live : List Nat), s.blk.stwServes = true → s.blk.safe = false →
    s.blk.stw.change = none → s.blk.stw.queue = c :: rest → s.blk.causeStale c = false → b = s.blk.prepareCause c →
    live = b.liveSet (Block.wakeJoin c) →
    (c.requested = true → ∀ n ∈ b.strandedNodes (Block.wakeJoin c) live, b.stw.stranded.contains n = true) →
    ∃ t, exec .epochChangeStart s = .next t ∧
      (b.mustWait (b.leaving (Block.wakeJoin c) live) = false → b.drainedBefore ((b.epochNo + 1) % 2) = true →
        t.blk.stw.queue = rest ∧ t.blk.on pgSTW STW_STATUS_EPOCH_BUSY = true ∧
        ∃ ch, t.blk.stw.change = some ch ∧ ch.cause = c ∧ ch.step = 4 ∧ ch.live = live ∧
          ch.nis = having 216 (fun i => b.niIn (Block.wakeJoin c) live i)) ∧
      (b.mustWait (b.leaving (Block.wakeJoin c) live) = true ∨ b.drainedBefore ((b.epochNo + 1) % 2) = false → t = s) ∧
      t.mem = s.mem ∧ t.pending = s.pending) ∧
  (∀ (s : State) (ch : Change), s.blk.stw.change = some ch → ch.step = 4 → s.blk.verifyFails ((s.blk.epochNo + 1) % 2) = none →
    ∃ t, exec (.epochVerify none) s = .next t ∧ t.blk.stw = { s.blk.stw with change := some { ch with step := 5 } } ∧
      s.unitsOnly [.cnt, .stw] t) ∧
  (∀ (s : State) (ch : Change), s.blk.stw.change = some ch → ch.step = 5 → s.blk.mustWait ch.leaving = false →
    ∃ t, exec .switchBroadcast s = .next t ∧ t.blk.stw.change = some { ch with step := 6, sent := s.blk.elapsed } ∧
      t.blk.rd pgSTW 0x070 = BitVec.ofNat 32 (s.blk.epochNo + 1) ∧
      (∀ n, n < 112 → (s.blk.dom (domOfNode n)).up = true → t.blk.nodeCur n = (s.blk.epochNo + 1) % 2) ∧
      (∀ i, i < 216 → s.blk.niUp i = true → t.blk.on (pgNi i) NI_INFO_LIVE = ch.nis.contains i) ∧
      t.mem = s.mem ∧ t.pending = s.pending)

/-- EPOCH_DRAINED (R68 steps 6 and 7, R70): with the old epoch's balances settled the change is complete. DRAIN_TIMEOUT (R72): it
is complete 1 ms after the broadcast, or at once where a discard count has saturated. ROUTE_TABLE_AUDIT (R545): a live node whose
table differs from the steward's own raises its event and makes it ask for one epoch change. -/
def Obligations.EpochEnd : Prop :=
  (∀ (s : State) (ch : Change), s.blk.stw.change = some ch → ch.step = 6 → s.blk.discardsSaturated s.blk.oldEpoch = false →
    s.blk.balanceSum s.blk.oldEpoch = 0 →
    ∃ t, exec .epochDrained s = .next t ∧ t.blk.stw.change = none ∧ t.blk.on pgSTW STW_STATUS_EPOCH_BUSY = false ∧
      t.mem = s.mem ∧ t.pending = s.pending) ∧
  (∀ (s : State) (ch : Change), s.blk.stw.change = some ch → ch.step = 6 →
    ∃ t, exec .drainTimeout s = .next t ∧ t.blk.stw.change = none ∧ t.blk.on pgSTW STW_STATUS_EPOCH_BUSY = false ∧
      (s.blk.discardsSaturated s.blk.oldEpoch = true → t.blk.elapsed = s.blk.elapsed) ∧
      (s.blk.discardsSaturated s.blk.oldEpoch = false → t.blk.elapsed = max s.blk.elapsed (ch.sent + 256000000)) ∧
      t.mem = s.mem ∧ t.pending = s.pending) ∧
  (∀ (s : State) (n : Nat), s.blk.stwServes = true → n < 112 → s.blk.nodeLive n (s.blk.epochNo % 2) = true →
    s.blk.tableDiffers n (s.blk.epochNo % 2) = true → s.blk.stw.queue.contains .audit = false →
    ∃ t, exec (.routeTableAudit []) s = .next t ∧ t.blk.stw.queue = s.blk.stw.queue ++ [.audit] ∧
      (∃ e ∈ t.blk.events, e.src = srcNode n 1 ∧ e.cls = clNODE ∧ 1 ≤ e.lvl) ∧ s.unitsOnly [.regs, .events, .stw] t)

/-! ### Power (13 R389-R412; 14 R424-R428) -/

/-- DOMAIN_ENTRY, DOMAIN_ENTRY_TEST, SD_ENTRY (R393-R397): a PM_REQ that asks for RETAIN or OFF and meets no reason to refuse
starts the entry of every domain named that is ON, with its target; a test goes with OFF. DOMAIN_WAKE (R398, R401, R402): a PM_REQ
for ON, with SD ON and stable, starts the first attempt of the wake of every domain named that is not ON, with its source. A PM_REQ
that meets a reason to refuse (R414) starts nothing and shows the reason. -/
def Obligations.PowerRequests : Prop :=
  (∀ (s : State) (w : Word) (c : Instr), c = .domainEntry w ∨ c = .domainEntryTest w ∨ c = .sdEntry w → bit w.toNat 29 = true →
    (having 26 (fun d => bit w.toNat d)) ≠ [] → bitsOf w.toNat 26 2 = 1 ∨ bitsOf w.toNat 26 2 = 2 →
    s.blk.pmCheck (having 26 (fun d => bit w.toNat d)) (bitsOf w.toNat 26 2) (bit w.toNat 28) = 0 →
    ∃ t, exec c s = .next t ∧
      (∀ d, d < 26 → bit w.toNat d = true → s.blk.domState d = 0 → t.blk.domPhase d = 1 ∧ (t.blk.dom d).target = bitsOf w.toNat 26 2 ∧
        (t.blk.dom d).test = (bit w.toNat 28 && bitsOf w.toNat 26 2 == 2)) ∧
      Block.onlyPages [pgPM] s.blk t.blk ∧ s.unitsOnly [.regs, .pm, .stw] t) ∧
  (∀ (s : State) (w : Word) (service : Bool), bit w.toNat 29 = true → bitsOf w.toNat 26 2 = 0 →
    s.blk.pmCheck (having 26 (fun d => bit w.toNat d)) 0 (bit w.toNat 28) = 0 →
    s.blk.domState domSD = 0 → s.blk.domPhase domSD = 0 → s.blk.wakeEnabled (if service then wSERVICE else wHOST) = true →
    ∃ t, exec (.domainWake w service) s = .next t ∧
      (∀ d, d < 24 → bit w.toNat d = true → s.blk.domState d ≠ 0 →
        (t.blk.domPhase d = 8 ∨ t.blk.domPhase d = 9) ∧ t.blk.g pgPM (PM_DOMAIN_ATTEMPTS d) = 1 ∧
        (t.blk.dom d).src = (if service then wSERVICE else wHOST)) ∧
      Block.onlyPages [pgPM] s.blk t.blk ∧ s.unitsOnly [.regs, .pm] t) ∧
  (∀ (s : State) (w : Word) (c : Instr) (code : Nat),
    c = .domainEntry w ∨ c = .domainEntryTest w ∨ c = .sdEntry w ∨ (∃ service, c = .domainWake w service) → bit w.toNat 29 = true →
    (having 26 (fun d => bit w.toNat d)) ≠ [] → code ≠ 0 →
    s.blk.pmCheck (having 26 (fun d => bit w.toNat d)) (bitsOf w.toNat 26 2) (bit w.toNat 28) = code →
    ∃ t, exec c s = .next t ∧ t.blk.g pgPM PM_STATUS_REFUSE = code ∧ t.blk.on pgPM PM_STATUS_REQ_REFUSED = true ∧
      Block.onlyWords [(pgPM, 0x040), (pgPM, 0x044), (pgPM, 0x018)] s.blk t.blk ∧ s.unitsOnly [.regs, .events] t)

/-- ENTRY_CONTINUE (R393, R408): after its drain a domain that is not to be tested holds its image and stands at its target,
unpowered and stable. SD_DRAIN_TIMEOUT (R397): 1 ms after SD's drain began it is forced; while SD's entry waits nothing is. SELFTEST_END
(R424, R425, R427): a plan of an entry that found no defect is recorded PASS where it ran all its steps to the signature expected, INCOMPLETE
where it ran fewer, else FAIL. WAKE_INCLUDE (R64, R400): a domain restored from its image asks once for the epoch change that includes
it. -/
def Obligations.EntrySteps : Prop :=
  (∀ (s : State) (d : Nat), d < 25 → s.blk.domPhase d = 3 → (s.blk.dom d).test = false → (s.blk.dom d).latched = none →
    (s.blk.dom d).target = 1 ∨ (s.blk.dom d).target = 2 →
    ∃ t, exec (.entryContinue d) s = .next t ∧ t.blk.domState d = (s.blk.dom d).target ∧ t.blk.domPhase d = 0 ∧
      (t.blk.dom d).up = false ∧ t.blk.on pgPM (PM_DOMAIN_IMG_VALID d) = true ∧ t.pending = s.pending) ∧
  (∀ s : State, s.blk.domPhase domSD = 1 ∨ s.blk.domPhase domSD = 2 →
    ∃ t, exec .sdDrainTimeout s = .next t ∧
      (s.blk.sdWaits = false → t.blk.domPhase domSD = 2 ∧
        t.blk.elapsed = max s.blk.elapsed ((s.blk.dom domSD).since + 256000000)) ∧
      (s.blk.sdWaits = true → t = s) ∧ t.mem = s.mem ∧ t.pending = s.pending) ∧
  (∀ (s : State) (d plan steps misr first : Nat), d < 24 → (s.blk.dom d).planRun = some plan → (s.blk.dom d).atWake = false →
    s.blk.g pgSTW STW_STATUS_STEP ≠ 6 →
    ∃ t, exec (.selftestEnd d steps misr first [] true) s = .next t ∧
      (t.mem.byteAt (testRecAddr d)).toNat =
        (if steps < planSteps d plan then rtINCOMPLETE
         else if steps = planSteps d plan ∧ misr = Config.planSignature (planIndex d plan) then rtPASS else rtFAIL) ∧
      (t.blk.dom d).planRun = none ∧ t.pending = s.pending) ∧
  (∀ (s : State) (d : Nat), d < 24 → s.blk.domPhase d = 11 → s.blk.safe = false → s.blk.includeAsked d = false →
    s.blk.on pgPM (PM_DOMAIN_IMG_VALID d) = true →
    ∃ t, exec (.wakeInclude d) s = .next t ∧ t.blk.stw.queue = s.blk.stw.queue ++ [.wake d] ∧ t.mem = s.mem ∧
      t.pending = s.pending)

/-- WAKE_POWER_GOOD (R398): with no self-test due the domain is ON and in phase 11. WAKE_TIMEOUT (R404): an attempt but the third
is followed by another; the third leaves the domain OFF with the reason. WAKE_RETRY (R404): the next attempt begins 100 µs later. -/
def Obligations.WakeAttempts : Prop :=
  (∀ (s : State) (d : Nat) (poisoned : List (Nat × Nat)), d < 25 → s.blk.domPhase d = 9 → (s.blk.dom d).up = false →
    (s.blk.dom d).retry = false → (Sys.planAtStart { blk := s.blk, mem := s.mem } d).1 = none →
    ∃ t, exec (.wakePowerGood d poisoned) s = .next t ∧ t.blk.domState d = 0 ∧ t.blk.domPhase d = 11 ∧ (t.blk.dom d).up = true ∧
      t.pending = s.pending) ∧
  (∀ (s : State) (d reason : Nat), d < 25 → 1 ≤ reason → reason ≤ 4 → s.blk.domPhase d = 8 ∨ s.blk.domPhase d = 9 →
    (s.blk.dom d).up = false → (s.blk.dom d).retry = false → (s.blk.dom d).waitSd = false →
    ∃ t, exec (.wakeTimeout d reason) s = .next t ∧
      (s.blk.g pgPM (PM_DOMAIN_ATTEMPTS d) < 3 → t.blk.domPhase d = 8 ∧ (t.blk.dom d).retry = true) ∧
      (s.blk.g pgPM (PM_DOMAIN_ATTEMPTS d) = 3 → t.blk.domState d = 2 ∧ t.blk.domPhase d = 0 ∧
        t.blk.g pgPM (PM_DOMAIN_FAIL d) = reason ∧ t.blk.evRaw (srcPM d) = true) ∧ t.mem = s.mem ∧ t.pending = s.pending) ∧
  (∀ (s : State) (d : Nat), d < 25 → (s.blk.dom d).retry = true → s.blk.g pgPM (PM_DOMAIN_ATTEMPTS d) < 3 →
    ∃ t, exec (.wakeRetry d) s = .next t ∧ (t.blk.domPhase d = 8 ∨ t.blk.domPhase d = 9) ∧
      t.blk.g pgPM (PM_DOMAIN_ATTEMPTS d) = s.blk.g pgPM (PM_DOMAIN_ATTEMPTS d) + 1 ∧ (t.blk.dom d).retry = false ∧
      t.blk.elapsed = max s.blk.elapsed ((s.blk.dom d).since + 25600000) ∧ Block.onlyPages [pgPM] s.blk t.blk ∧
      s.unitsOnly [.regs, .cnt, .time, .pm] t)

/-- WAKE_PIN and WAKE_TIMER_FIRE (R401, R417): an enabled source starts the wake of the domains of its set, with SD ON and stable;
the timer is disarmed, and device time has reached its stamp. PORT_RELEASE (R400): the ports named of a domain that is ON and
included are released, and one named of another domain stays held and shows WR_REFUSED. -/
def Obligations.WakeSources : Prop :=
  (∀ (s : State) (k : Nat), k < 4 → s.blk.pins.porst = true → s.blk.pins.frst = true → s.blk.wakeEnabled (2 + k) = true →
    s.blk.domState domSD = 0 → s.blk.domPhase domSD = 0 →
    ∃ t, exec (.wakePin k) s = .next t ∧
      (∀ d ∈ s.blk.wakeSetOf (2 + k), d < 24 → s.blk.domState d ≠ 0 → s.blk.domPhase d = 0 →
        (t.blk.domPhase d = 8 ∨ t.blk.domPhase d = 9) ∧ (t.blk.dom d).src = 2 + k) ∧ s.unitsOnly [.regs, .pm] t) ∧
  (∀ s : State, s.blk.on pgPM PM_WAKE_TIMER_HI_ARMED = true → s.blk.wakeEnabled wTIMER = true → s.blk.domState domSD = 0 →
    s.blk.domPhase domSD = 0 →
    ∃ t, exec .wakeTimerFire s = .next t ∧ t.blk.on pgPM PM_WAKE_TIMER_HI_ARMED = false ∧
      t.blk.now = max s.blk.now (nsOfStamp ((s.blk.rd pgPM PM_WAKE_TIMER).toNat + s.blk.g pgPM PM_WAKE_TIMER_HI_T * 2 ^ 32) * 256) ∧
      (∀ d ∈ s.blk.wakeSetOf wTIMER, d < 24 → s.blk.domState d ≠ 0 → s.blk.domPhase d = 0 →
        (t.blk.domPhase d = 8 ∨ t.blk.domPhase d = 9) ∧ (t.blk.dom d).src = wTIMER) ∧ s.unitsOnly [.regs, .cnt, .time, .pm] t) ∧
  (∀ (s : State) (w : Word), ∃ t, exec (.portRelease w) s = .next t ∧
      (∀ d, (d < 16 ∨ d = domSD) → bit w.toNat d = true → s.blk.domState d = 0 → (s.blk.dom d).included = true →
        t.blk.on pgPM (PM_DOMAIN_HELD d) = false ∧
        (∀ i, i < 192 → domOfNi i = d → t.blk.on (pgNi i) NI_LP_STAT_HELD = false)) ∧
      (∀ d, (d < 16 ∨ d = domSD) → bit w.toNat d = true → ¬(s.blk.domState d = 0 ∧ (s.blk.dom d).included = true) →
        t.blk.on pgPM (PM_DOMAIN_HELD d) = s.blk.on pgPM (PM_DOMAIN_HELD d) ∧ t.blk.on pgPM PM_STATUS_WR_REFUSED = true) ∧
      (∀ d, (d < 16 ∨ d = domSD) → bit w.toNat d = false → t.blk.on pgPM (PM_DOMAIN_HELD d) = s.blk.on pgPM (PM_DOMAIN_HELD d)) ∧
      s.unitsOnly [.regs] t)

/-- RAIL_PG_FALL (R406; 19 R542): PG reads low; a fabric rail takes the domains that are ON with it to OFF, and VSPN every loop domain that is
ON and every domain of its own; a change of a rail's target that no wake needs ends at FAULT. RAIL_TARGET_REQUEST (R410): a higher target
within the limits is taken at once, a lower one waits while a slot is active, and one outside the limits is refused. RAIL_FALL_RESUME (R411):
a lower one that waited is sent when no slot is active. -/
def Obligations.RailRequests : Prop :=
  (∀ (s : State) (r : Nat), r < 4 → ∃ t, exec (.railPgFall r) s = .next t ∧ t.blk.on pgPM (PM_RAIL_STATUS_PG r) = false ∧
      (∀ d, d < 16 → railOfDom d = r → s.blk.railState r ≠ railCHANGING → s.blk.domState d = 0 → (s.blk.dom d).up = true →
        t.blk.domState d = 2 ∧ (t.blk.dom d).up = false) ∧
      (r = 2 → s.blk.railState 2 ≠ railCHANGING → (∃ e ∈ domsOfRail 2, s.blk.domState e = 0 ∧ (s.blk.dom e).up = true) →
        ∀ d, d < 25 → 16 ≤ d ∨ (s.blk.domState d = 0 ∧ (s.blk.dom d).up = true) → t.blk.domState d = 2 ∧ (t.blk.dom d).up = false) ∧
      (s.blk.railState r = railCHANGING → s.blk.wakesRail r = false → t.blk.railState r = railFAULT ∧
        t.blk.evRaw (srcPM (railDom r)) = true) ∧
      (s.blk.railState r = railCHANGING → Block.onlyPages [pgPM] s.blk t.blk ∧ s.unitsOnly [.regs, .events, .pm] t) ∧
      t.pending = s.pending) ∧
  (∀ (s : State) (w : Word) (r : Nat), r < 4 →
    ∃ t, exec (.railTargetRequest w) s = .next t ∧
      (s.blk.g pgPM (PM_RAIL_TARGET r) < bitsOf w.toNat (8 * r) 8 → s.blk.railFloor r ≤ bitsOf w.toNat (8 * r) 8 →
        bitsOf w.toNat (8 * r) 8 ≤ 180 → t.blk.g pgPM (PM_RAIL_TARGET r) = bitsOf w.toNat (8 * r) 8 ∧
          (s.blk.railState r ≠ railOFF → (s.blk.rail r).fixed = false → t.blk.railState r = railCHANGING)) ∧
      (bitsOf w.toNat (8 * r) 8 < s.blk.g pgPM (PM_RAIL_TARGET r) → s.blk.railFloor r ≤ bitsOf w.toNat (8 * r) 8 →
        bitsOf w.toNat (8 * r) 8 ≤ 180 → s.blk.allSlotsIdle = false →
        t.blk.g pgPM (PM_RAIL_TARGET r) = bitsOf w.toNat (8 * r) 8 ∧ t.blk.on pgPM (PM_RAIL_STATUS_WAIT_COMMIT r) = true ∧
          t.blk.railState r = s.blk.railState r) ∧
      (bitsOf w.toNat (8 * r) 8 ≠ s.blk.g pgPM (PM_RAIL_TARGET r) →
        bitsOf w.toNat (8 * r) 8 < s.blk.railFloor r ∨ 180 < bitsOf w.toNat (8 * r) 8 →
        t.blk.g pgPM (PM_RAIL_TARGET r) = s.blk.g pgPM (PM_RAIL_TARGET r) ∧ t.blk.on pgPM (PM_RAIL_STATUS_REFUSED r) = true) ∧
      s.unitsOnly [.regs, .events, .pm, .free] t) ∧
  (∀ (s : State) (r : Nat), r < 4 → s.blk.on pgPM (PM_RAIL_STATUS_WAIT_COMMIT r) = true → s.blk.allSlotsIdle = true →
    ∃ t, exec (.railFallResume r) s = .next t ∧ t.blk.on pgPM (PM_RAIL_STATUS_WAIT_COMMIT r) = false ∧
      (s.blk.railState r ≠ railOFF → (s.blk.rail r).fixed = false → t.blk.railState r = railCHANGING) ∧
      s.unitsOnly [.regs, .pm, .free] t)

/-- RAIL_CONFIRM (R409, R411): a change under PG and without fault bits is APPLIED, and the rail IDLE. RAIL_CONFIRM_TIMEOUT
(R411): 2 ms after it began the rail is at FAULT. VFLOOR_WRITE (R410; 04 R112): the word is PM_VFLOOR's, and no rail's target stays below its
floor. SMBALERT (R412): the answering rail's STATUS_WORD is stored, and fault bits raise its event. -/
def Obligations.RailAnswers : Prop :=
  (∀ (s : State) (r sw vout : Nat), r < 4 → s.blk.railState r = railCHANGING → s.blk.on pgPM (PM_RAIL_STATUS_PG r) = true →
    statusFaults (sw % 2 ^ 16) = false →
    ∃ t, exec (.railConfirm r sw vout) s = .next t ∧ t.blk.railState r = railIDLE ∧
      t.blk.g pgPM (PM_RAIL_STATUS_APPLIED r) = s.blk.g pgPM (PM_RAIL_TARGET r) ∧
      t.blk.g pgPM (PM_RAIL_STATUS_STATUS_WORD r) = sw % 2 ^ 16 ∧ (∀ d ∈ s.blk.waitRail r, t.blk.domPhase d = 9) ∧
      s.unitsOnly [.regs, .pm] t) ∧
  (∀ (s : State) (r sw since : Nat), r < 4 → s.blk.railState r = railCHANGING → (s.blk.rail r).since = some since →
    s.blk.wakesRail r = false →
    ∃ t, exec (.railConfirmTimeout r sw) s = .next t ∧ t.blk.railState r = railFAULT ∧
      t.blk.elapsed = max s.blk.elapsed (since + 512000000) ∧ t.blk.evRaw (srcPM (railDom r)) = true ∧
      s.unitsOnly [.regs, .cnt, .events, .time, .pm] t) ∧
  (∀ (s : State) (w : Word), ∃ t, exec (.vfloorWrite w) s = .next t ∧ t.blk.rd pgPM 0x074 = w ∧ t.blk.stw.floorDue = false ∧
      (∀ r, r < 4 → t.blk.g pgPM (PM_RAIL_TARGET r) = max (s.blk.g pgPM (PM_RAIL_TARGET r)) (t.blk.railFloor r)) ∧
      Block.onlyPages [pgPM, pgCSQ] s.blk t.blk ∧ s.unitsOnly [.regs, .events, .pm, .stw, .free] t) ∧
  (∀ (s : State) (r sw : Nat), r < 4 →
    ∃ t, exec (.smbalert [(r, sw)]) s = .next t ∧ t.blk.g pgPM (PM_RAIL_STATUS_STATUS_WORD r) = sw % 2 ^ 16 ∧
      (statusFaults (sw % 2 ^ 16) = true → t.blk.evRaw (srcPM (railDom r)) = true) ∧
      (statusFaults (sw % 2 ^ 16) = false → t.blk.events = s.blk.events) ∧ s.unitsOnly [.regs, .events] t)

/-! ### Resets and the crozier (16 R470-R490) -/

/-- POWER_ON_RESET (R470, R471): PORST_N falls; device time is 0, the nodes, NIs and commit slots are empty, and every byte of the
banks reads zero. PORST_RELEASE (R471, R473, R481, R484): the life-cycle pins are taken, the power epoch counts on, and without every PG
the crozier waits at step 1; where the device words cannot be read it halts at step 0. PG_RISE (R481 step 1, R419): PG reads high; with
another rail missing nothing else happens. PG_MISSING_TIMEOUT (R484): 10 ms after the wait began the crozier halts at step 1, with an event
for each rail that is missing. -/
def Obligations.PowerOnReset : Prop :=
  (∀ s : State, s.blk.pins.porst = true →
    ∃ t, exec .powerOnReset s = .next t ∧ t.blk.pins = { s.blk.pins with porst := false } ∧ t.blk.now = 0 ∧ t.blk.nodes = [] ∧
      t.blk.nis = [] ∧ t.blk.csq = {} ∧ (∀ k off, k < 8 → off < 0x800000 → t.mem.byteAt (bankAddr k off) = 0) ∧
      t.pending = s.pending) ∧
  (∀ (s : State) (lc : BitVec 8) (vout : List Nat) (wc : WipeCheck) (sc : StartCheck), s.blk.pins.porst = false → s.blk.pins.frst = true →
    s.blk.allPg = false →
    ∃ t, exec (.porstRelease lc vout wc sc) s = .next t ∧ t.blk.pins.porst = true ∧ t.blk.pins.lc = lc ∧
      (sc.wordsBad = false → t.blk.g pgLG LG_EPOCH_EPOCH = min 65535 (s.blk.lc.powerEpoch + 1) ∧ t.blk.g pgSTW STW_STATUS_STEP = 1) ∧
      (sc.wordsBad = true → t.blk.halted = true ∧ t.blk.g pgSTW STW_STATUS_STEP = 0 ∧ t.blk.evRaw (srcLG 0) = true) ∧
      t.pending = s.pending) ∧
  (∀ (s : State) (r q : Nat), r < 4 → q < 4 → q ≠ r → s.blk.on pgPM (PM_RAIL_STATUS_PG q) = false →
    ∃ t, exec (.pgRise r) s = .next t ∧ t.blk.on pgPM (PM_RAIL_STATUS_PG r) = true ∧
      Block.onlyWords [(pgPM, 0x080 + 4 * r)] s.blk t.blk ∧ s.unitsOnly [.regs] t) ∧
  (∀ s : State, s.blk.waitsPg = true → s.blk.allPg = false →
    ∃ t, exec .pgMissingTimeout s = .next t ∧ t.blk.halted = true ∧ t.blk.g pgSTW STW_STATUS_STEP = 1 ∧
      t.blk.elapsed = max s.blk.elapsed ((s.blk.dom domSD).since + 2560000000) ∧
      (∀ r, r < 4 → s.blk.on pgPM (PM_RAIL_STATUS_PG r) = false → t.blk.evRaw (srcPM (railDom r)) = true) ∧
      s.unitsOnly [.regs, .cnt, .events, .time] t)

/-- FABRIC_RESET (R470, R472; 06 R197): FRST_N falls; every NI outside AO and every commit slot is empty, no NI holds a commit record, and
the cause is recorded and counted. FRST_RELEASE (R470): the pin is high; where the crozier has nothing to run nothing else happens.
TOP_SOFT_RESET and STW_WDOG_EXPIRY (R472, R501): the same reset with its own cause, shown here with SD neither ON nor waking, so that no
crozier follows; a soft reset without its key, or not from MG0, is refused. -/
def Obligations.FabricResets : Prop :=
  (∀ s : State, s.blk.pins.porst = true → s.blk.pins.frst = true →
    ∃ t, exec .fabricReset s = .next t ∧ t.blk.pins = { s.blk.pins with frst := false } ∧
      t.blk.g pgTOP TOP_RESET_CAUSE_CAUSE = 2 ∧ t.blk.g pgTOP TOP_RESET_CAUSE_FRSTS = min 255 (s.blk.g pgTOP TOP_RESET_CAUSE_FRSTS + 1) ∧
      (∀ i, i < 216 → domOfNi i ≠ domAO → t.blk.ni i = {}) ∧ (∀ i, i < 216 → (t.blk.ni i).recs = []) ∧
      t.blk.csq = { cid := s.blk.csq.cid } ∧ t.mem = s.mem ∧ t.pending = s.pending) ∧
  (∀ (s : State) (sc : StartCheck), s.blk.pins.frst = false → s.blk.pins.porst = false ∨ s.blk.halted = true ∨
      (s.blk.evl.booted = true ∧ s.blk.domState domSD ≠ 0) →
    exec (.frstRelease sc) s = .next { s with blk := { s.blk with
      pins := { s.blk.pins with frst := true }, stw := { s.blk.stw with start := sc } } }) ∧
  (∀ (s : State) (w : Word), (s.blk.dom domAO).up = true → bitsOf w.toNat 16 16 = 0x7B3A → s.blk.pins.porst = true →
    ∃ t, exec (.topSoftReset w 0) s = .next t ∧ t.pending = s.pending ∧
      (s.blk.evl.booted = true → s.blk.domState domSD ≠ 0 → s.blk.domPhase domSD < 9 → t.blk.g pgTOP TOP_RESET_CAUSE_CAUSE = 3 ∧
        (∀ i, i < 216 → domOfNi i ≠ domAO → t.blk.ni i = {}) ∧ t.blk.csq = { cid := s.blk.csq.cid } ∧ t.mem = s.mem)) ∧
  (∀ (s : State) (w : Word) (mg : Nat), (s.blk.dom domAO).up = true → bitsOf w.toNat 16 16 ≠ 0x7B3A ∨ mg ≠ 0 →
    ∃ t, exec (.topSoftReset w mg) s = .next t ∧ t.blk.on pgTOP TOP_WDOG_WR_REFUSED = true ∧
      Block.onlyWords [(pgTOP, 0x064)] s.blk t.blk ∧ s.unitsOnly [.regs] t) ∧
  (∀ (s : State) (sc : StartCheck), s.blk.on pgTOP TOP_WDOG_EN = true → s.blk.pinsHigh = true →
    ∃ t, exec (.stwWdogExpiry sc) s = .next t ∧ t.pending = s.pending ∧
      (s.blk.evl.booted = true → s.blk.domState domSD ≠ 0 → s.blk.domPhase domSD < 9 → t.blk.g pgTOP TOP_RESET_CAUSE_CAUSE = 4 ∧
        t.blk.elapsed = max s.blk.elapsed (s.blk.stw.wdogAt + max 10 (s.blk.g pgTOP TOP_WDOG_LIMIT) * 256000000) ∧
        (∀ i, i < 216 → domOfNi i ≠ domAO → t.blk.ni i = {}) ∧ t.blk.csq = { cid := s.blk.csq.cid } ∧ t.mem = s.mem))

/-- LC_INVALID (R486): 1 ms of an unexpected code makes the state INVALID and takes the keys out of use. LC_VALID_RETURN (R486):
the recorded state is in force again. LC_ADOPT (R489): after a wipe without a failed word the prepared state is recorded, the key that
waited is the current one, and a fabric reset follows. -/
def Obligations.LifeCycle : Prop :=
  (∀ (s : State) (pins : BitVec 8), s.blk.pins.porst = true → pins.toNat ≠ s.blk.lc.recorded → s.blk.lc.target ≠ some pins.toNat →
    s.blk.lcInvalid = false →
    ∃ t, exec (.lcInvalid pins) s = .next t ∧ t.blk.lcInvalid = true ∧ t.blk.lcState = 0xFF ∧ t.blk.pins.lc = pins ∧
      t.blk.evl.keys = none ∧ t.blk.elapsed = s.blk.elapsed + 256000000 ∧ t.mem = s.mem ∧ t.pending = s.pending) ∧
  (∀ s : State, s.blk.pins.porst = true → s.blk.lcInvalid = true → s.blk.lc.recorded < 256 →
    ∃ t, exec .lcValidReturn s = .next t ∧ t.blk.lcInvalid = false ∧ t.blk.lcState = s.blk.lc.recorded ∧
      t.blk.pins.lc.toNat = s.blk.lc.recorded ∧ s.unitsOnly [.regs, .evl, .pins] t) ∧
  (∀ (s : State) (tg : Nat) (anchorOk : Bool), s.blk.lc.target = some tg → tg < 256 → s.blk.pins.porst = true → s.blk.lcInvalid = false →
    s.blk.evl.booted = true → s.blk.domState domSD ≠ 0 → s.blk.domPhase domSD < 9 →
    ∃ t, exec (.lcAdopt { fails := [], anchorOk := anchorOk }) s = .next t ∧ t.blk.lc.recorded = tg ∧ t.blk.lc.target = none ∧
      t.blk.lcState = tg ∧ t.blk.evl.curKeys = (if lcKeyed tg then s.blk.evl.nextKeys else none) ∧
      t.blk.g pgTOP TOP_RESET_CAUSE_CAUSE = 5 ∧ t.pending = s.pending)

/-- REGISTER_WRITE (00 R9; 18 R520-R527): an unlocked page's RW word takes the write and no other word changes; a locked page
keeps it and shows REFUSED, but for MG14 and the steward; a write to a read-only word of the header changes no word. -/
def Obligations.RegisterWrite : Prop :=
  (∀ (s : State) (addr p src : Nat) (w : Word), area addr = .page p 0x02C → isPage p = true → isCounterPage p = false →
    s.blk.pageOn p = true → s.blk.on p PG_LOCK_LOCK = false →
    ∃ t, exec (.registerWrite addr w src) s = .next t ∧ t.blk.rd p 0x02C = w ∧
      Block.onlyWords [(p, 0x02C)] s.blk t.blk ∧ s.unitsOnly [.regs] t) ∧
  (∀ (s : State) (addr p src : Nat) (w : Word), area addr = .page p 0x02C → isPage p = true → isCounterPage p = false →
    s.blk.pageOn p = true → s.blk.on p PG_LOCK_LOCK = true → s.blk.group src ≠ 14 → src ≠ 204 → w ≠ s.blk.rd p 0x02C →
    ∃ t, exec (.registerWrite addr w src) s = .next t ∧ t.blk.on p PG_CTRL_REFUSED = true ∧
      Block.onlyWords [(p, 0x008)] s.blk t.blk ∧ s.unitsOnly [.regs] t) ∧
  (∀ (s : State) (addr p off src : Nat) (w : Word), area addr = .page p off → off = 0x000 ∨ off = 0x004 ∨ off = 0x01C ∨ off = 0x028 →
    isPage p = true → s.blk.on p PG_LOCK_LOCK = false →
    ∃ t, exec (.registerWrite addr w src) s = .next t ∧ Block.onlyWords [] s.blk t.blk ∧ s.unitsOnly [.regs] t)

/-! ### Time (05 R113-R149) -/

/-- REFCLK_LOCK, REFCLK_LOSS (R118, R124): the lock bits, the status, and on a loss the event. PPS_EDGE (R119, R153): device time
and the capture registers. PPS_MISS (R119, R124): the miss is counted, while PPS is there and while it is lost; the second in a row makes PPS
lost. The correction in use stays within 200 ppm (R122), here on the loss of REFCLK. -/
def Obligations.TimeReference : Prop :=
  (∀ s : State, ∃ t, exec .refclkLock s = .next t ∧ t.blk.on pgTU TU_STATUS_REF_LOCK = true ∧ t.blk.on pgTU TU_STATUS_ON_IOSC = false ∧
      t.blk.timeStatus = (if s.blk.timeStatus = tsUNTRACEABLE then tsHOLDOVER else s.blk.timeStatus) ∧
      Block.onlyWords [(pgTU, 0x050)] s.blk t.blk ∧ s.unitsOnly [.regs, .csq] t) ∧
  (∀ s : State, s.blk.on pgTU TU_STATUS_REF_LOCK = true →
    ∃ t, exec .refclkLoss s = .next t ∧ t.blk.on pgTU TU_STATUS_REF_LOCK = false ∧ t.blk.on pgTU TU_STATUS_ON_IOSC = true ∧
      t.blk.timeStatus = (if s.blk.timeStatus = tsUNSET then tsUNSET else tsUNTRACEABLE) ∧ t.blk.evRaw (srcTU 1) = true ∧
      -200000 ≤ t.blk.corr ∧ t.blk.corr ≤ 200000 ∧
      Block.onlyPages [pgTU] s.blk t.blk ∧ s.unitsOnly [.regs, .events, .tu, .csq, .free] t) ∧
  (∀ (s : State) (at256 : Nat), ∃ t, exec (.ppsEdge at256) s = .next t ∧ t.blk.now = max s.blk.now at256 ∧
      t.blk.g pgTU TU_PPS_LAST_FRAC = max s.blk.now at256 % 256 ∧
      t.blk.g64 pgTU TU_PPS_LAST_STAMP = stampAt (max s.blk.now at256) % 2 ^ 64 ∧ t.blk.on pgTU TU_STATUS_TOD_PEND = false ∧
      t.pending = s.pending ∧ Block.onlyParts [.regs, .cnt, .events, .time, .tu, .nis, .ports, .csq, .fs, .evl, .pm, .free] s.blk t.blk) ∧
  (∀ (s : State) (t0 : Nat), s.blk.tu.lastValid = some t0 →
    ∃ t, exec .ppsMiss s = .next t ∧ t.blk.on pgTU TU_STATUS_PPS_MISS = true ∧
      t.blk.g pgTU TU_PPS_CNT_MISSES = satAdd 16 (s.blk.g pgTU TU_PPS_CNT_MISSES) 1 ∧ t.blk.tu.missRun = s.blk.tu.missRun + 1 ∧
      t.blk.elapsed = max s.blk.elapsed (t0 + (s.blk.tu.missRun + 1) * 256000000000 + 256000) ∧
      (s.blk.tu.missRun ≠ 1 → t.blk.on pgTU TU_STATUS_PPS_OK = s.blk.on pgTU TU_STATUS_PPS_OK) ∧
      (s.blk.tu.missRun = 1 → t.blk.on pgTU TU_STATUS_PPS_OK = false ∧ t.blk.evRaw (srcTU 0) = true ∧
        (s.blk.timeStatus = tsTRACEABLE ∨ s.blk.timeStatus = tsSLEWING → t.blk.timeStatus = tsHOLDOVER)) ∧
      Block.onlyPages [pgTU] s.blk t.blk ∧ s.unitsOnly [.regs, .cnt, .events, .time, .tu, .csq] t)

/-- TU_TIME_CAPTURE (R151): the three fields show this instant. PPS_OUT_PULSE (R148): the pin rises ADVANCE before the next whole
second and falls after WIDTH. LATTICE_EDGE (R136, R137): device time stands on the next multiple of 256 ns, the edge is on tree A, tree B
and the ring, and within a frame the word that it sends stays. LATTICE_REVERT, LATTICE_FORCE_B (R140): every cell is asked to move back to
tree A, or every one on tree A to leave it. TIMED_STROBE (R144): the strobe with the lowest label does what its own command does. -/
def Obligations.LatticeAndOutputs : Prop :=
  (∀ s : State, ∃ t, exec .tuTimeCapture s = .next t ∧ t.blk.g pgTU TU_TIME_FRAC = s.blk.now % 256 ∧
      t.blk.g pgTU TU_TIME_STATE = s.blk.timeStatus ∧ t.blk.g64 pgTU 0x044 = stampAt s.blk.now % 2 ^ 64 ∧
      Block.onlyWords [(pgTU, 0x040), (pgTU, 0x044), (pgTU, 0x048)] s.blk t.blk ∧ s.unitsOnly [.regs] t) ∧
  (∀ (s : State) (sec : Nat), s.blk.ppsOutOk = true → s.blk.tu.ppsOut = false →
    sec = ceilDiv (s.blk.now + s.blk.g pgTU TU_PPS_OUT_ADVANCE) secUnits → (∀ p, s.blk.tu.pulsed = some p → p < sec) →
    ∃ t, exec (.ppsOutPulse true) s = .next t ∧ t.blk.tu.ppsOut = true ∧ t.blk.tu.pulsed = some sec ∧
      t.blk.now = max s.blk.now (sec * secUnits - s.blk.g pgTU TU_PPS_OUT_ADVANCE) ∧ s.unitsOnly [.cnt, .time, .tu] t) ∧
  (∀ s : State, s.blk.tu.ppsOut = true →
    ∃ t, exec (.ppsOutPulse false) s = .next t ∧ t.blk.tu.ppsOut = false ∧
      t.blk.elapsed = max s.blk.elapsed (s.blk.tu.roseAt + max 1 (s.blk.g pgTU TU_PPS_OUT_WIDTH) * 256000) ∧
      s.unitsOnly [.cnt, .time, .tu] t) ∧
  (∀ s : State, ∃ t, exec .latticeEdge s = .next t ∧ t.blk.now = (s.blk.now / 65536 + 1) * 65536 ∧ t.blk.nowNs % 256 = 0 ∧
      (∀ k, k < 3 → (AMap.get {} t.blk.tu.lattice k).edge = some t.blk.now) ∧
      (t.blk.nowNs % 16384 ≠ 0 → t.blk.tu.word = s.blk.tu.word) ∧
      s.unitsOnly [.cnt, .time, .tu] t) ∧
  (∀ s : State, s.blk.on pgTU TU_LATTICE_FORCE_B = false →
    ∃ t, exec .latticeRevert s = .next t ∧ (∀ n, n < 112 → (t.blk.cell n).move = 1) ∧ s.unitsOnly [.cells] t) ∧
  (∀ (s : State) (on : Bool), ∃ t, exec (.latticeForceB on) s = .next t ∧ t.blk.on pgTU TU_LATTICE_FORCE_B = on ∧
      (on = true → s.blk.on pgTU TU_LATTICE_FORCE_B = false → ∀ n, n < 112 → s.blk.cellSrc n = 0 → (t.blk.cell n).move = 2) ∧
      (on = false → ∀ n, n < 112 → (t.blk.cell n).move ≠ 2) ∧
      Block.onlyWords [(pgTU, 0x07C)] s.blk t.blk ∧ s.unitsOnly [.regs, .cells] t) ∧
  (∀ (s : State) (n i k at' : Nat), n < 112 → i < 216 → k < 4 → earliest (s.blk.strobes n) = some (at', .release i k) →
    ∃ t, exec (.timedStrobe n) s = .next t ∧ exec (.commitRelease i k) s = .next t) ∧
  (∀ (s : State) (n i at' : Nat), n < 112 → i < 216 → earliest (s.blk.strobes n) = some (at', .swap i) →
    ∃ t, exec (.timedStrobe n) s = .next t ∧ exec (.ruleSetSwap i) s = .next t)

/-- TOD_ARM (R120): the words are held and TOD_PEND set. TOD_EXPIRY (R120): 1.1 s later it clears. TOD_FREE_SET (R121, R153): with the
status UNSET the value is armed and a step to it, with cause 3, is scheduled; otherwise the write is refused. -/
def Obligations.TodWrites : Prop :=
  (∀ (s : State) (lo : Option Word) (hi : Word), ∃ t, exec (.todArm lo hi) s = .next t ∧ t.blk.on pgTU TU_STATUS_TOD_PEND = true ∧
      t.blk.g pgTU TU_TOD_HI_SEC_HI = bitsOf hi.toNat 0 2 ∧ t.blk.rd pgTU 0x054 = lo.getD (s.blk.rd pgTU 0x054) ∧
      t.blk.tu = { s.blk.tu with armedAt := some s.blk.elapsed } ∧
      Block.onlyWords [(pgTU, 0x050), (pgTU, 0x054), (pgTU, 0x058)] s.blk t.blk ∧ s.unitsOnly [.regs, .tu] t) ∧
  (∀ (s : State) (t0 : Nat), s.blk.tu.armedAt = some t0 →
    ∃ t, exec .todExpiry s = .next t ∧ t.blk.on pgTU TU_STATUS_TOD_PEND = false ∧ t.blk.tu.armedAt = none ∧
      t.blk.elapsed = max s.blk.elapsed (t0 + 281600000000) ∧ Block.onlyWords [(pgTU, 0x050)] s.blk t.blk ∧
      s.unitsOnly [.regs, .cnt, .time, .tu] t) ∧
  (∀ (s : State) (lo : Option Word) (hi : Word), s.blk.timeStatus = tsUNSET → s.blk.tu.step = none →
    ∃ t x, exec (.todFreeSet lo hi) s = .next t ∧ t.blk.tu.step = some x ∧ x.at256 = s.blk.freeFrame ∧ x.cause = 3 ∧
      x.delta = labelDiff ((((lo.getD (s.blk.rd pgTU 0x054)).toNat + bitsOf hi.toNat 0 2 * 2 ^ 32) * secUnits : Nat) - (x.at256 : Int)) ∧
      t.blk.on pgTU TU_STATUS_TOD_PEND = true ∧ t.blk.tu.armedAt = some s.blk.elapsed ∧
      s.blk.now + 16384 * 256 ≤ x.at256 ∧ x.at256 % (16384 * 256) = 0 ∧ t.blk.now = s.blk.now ∧ t.pending = s.pending) ∧
  (∀ (s : State) (lo : Option Word) (hi : Word), s.blk.timeStatus ≠ tsUNSET →
    ∃ t, exec (.todFreeSet lo hi) s = .next t ∧ t.blk.on pgTU TU_STATUS_WR_REFUSED = true ∧
      Block.onlyWords [(pgTU, 0x050), (pgTU, 0x018)] s.blk t.blk ∧ s.unitsOnly [.regs, .events] t)

/-- STEP_AUTHORISE (R131, R132): with the key, the SEQ and STEP_PEND a step by TU_OFFSET is scheduled at the start of the second
frame; otherwise it is refused. STEP_APPLY (R124, R132-R135): at S device time is relabelled, and no step awaits; an authorised step ends
HOLDOVER in SLEWING, and one without PPS ends in HOLDOVER, or UNTRACEABLE without the reference. -/
def Obligations.TimeSteps : Prop :=
  (∀ (s : State) (v : Word), bitsOf v.toNat 16 16 = 0xC1A5 → bitsOf v.toNat 0 8 = s.blk.g pgTU TU_STATUS_STEP_SEQ →
    s.blk.on pgTU TU_STATUS_STEP_PEND = true → s.blk.tu.step = none →
    ∃ t x, exec (.stepAuthorise v) s = .next t ∧ t.blk.tu.step = some x ∧ x.at256 = s.blk.secondFrame ∧ x.delta = s.blk.offset ∧
      x.cause = 0 ∧ t.blk.now = s.blk.now ∧ t.pending = s.pending) ∧
  (∀ (s : State) (v : Word), bitsOf v.toNat 16 16 ≠ 0xC1A5 ∨ bitsOf v.toNat 0 8 ≠ s.blk.g pgTU TU_STATUS_STEP_SEQ ∨
      s.blk.on pgTU TU_STATUS_STEP_PEND = false ∨ s.blk.tu.step ≠ none →
    ∃ t, exec (.stepAuthorise v) s = .next t ∧ t.blk.on pgTU TU_STATUS_STEP_REFUSED = true ∧
      Block.onlyWords [(pgTU, 0x050), (pgTU, 0x018)] s.blk t.blk ∧ s.unitsOnly [.regs, .events] t) ∧
  (∀ (s : State) (x : TimeStep), s.blk.tu.step = some x →
    ∃ t, exec .stepApply s = .next t ∧ t.blk.now = relabel (max s.blk.now x.at256) (stepQ x.delta) ∧ t.blk.tu.step = none ∧
      t.blk.on pgTU TU_STATUS_STEPPED = true ∧
      (x.cause = 0 → t.blk.on pgTU TU_STATUS_STEP_PEND = false ∧
        t.blk.timeStatus = (if s.blk.timeStatus = tsHOLDOVER then tsSLEWING else s.blk.timeStatus)) ∧
      (x.cause = 3 → t.blk.timeStatus = (if s.blk.on pgTU TU_STATUS_REF_LOCK = true then tsHOLDOVER else tsUNTRACEABLE)) ∧
      Block.onlyWords [(pgTU, 0x050)] s.blk t.blk ∧ s.unitsOnly [.regs, .cnt, .time, .tu, .cells, .nodes, .csq, .evl] t)

/-- LATTICE_WORD_RECEIVE (R138): a word with bad CRC is counted; a good one that says what the cell counts sets nothing back.
CELL_SOURCE_FAULT (R139): the cell leaves tree A for tree B, the ring, or none. ECHO_ROUND (R141, R142): it comes 64 ns after the edge
3n + s of a sub-round of 512 edges (log 101: for a READY cell the first of eight), and the first measurement on a source is half the
difference. -/
def Obligations.TimeCells : Prop :=
  (∀ (s : State) (n : Nat) (errs : BitVec 64), n < 112 → s.blk.cellSrc n ≠ srcNONE → s.blk.domState (domOfNode n) = 0 →
    ∃ t, exec (.latticeWordReceive n errs) s = .next t ∧
      (crc4Of ((s.blk.tu.lastWord ^^^ errs).toNat / 16) 60 0 ≠ (s.blk.tu.lastWord ^^^ errs).toNat % 16 →
        (t.blk.cell n).wordErr = satAdd 8 (s.blk.cell n).wordErr 1) ∧
      (errs = 0 → crc4Of (s.blk.tu.lastWord.toNat / 16) 60 0 = s.blk.tu.lastWord.toNat % 16 →
        (s.blk.cell n).off = none ∨ (s.blk.cell n).off = some 0 →
        (t.blk.cell n).off = some 0 ∧ (t.blk.cell n).gotWord = true ∧ (t.blk.cell n).wordErr = (s.blk.cell n).wordErr ∧
        (t.blk.cell n).status = bitsOf s.blk.tu.lastWord.toNat 5 3) ∧
      (∀ m, m ≠ n → t.blk.cell m = s.blk.cell m) ∧ Block.onlyPages [pgTU] s.blk t.blk ∧ s.unitsOnly [.regs, .events, .cells] t) ∧
  (∀ (s : State) (n : Nat), n < 112 → s.blk.domState (domOfNode n) = 0 → s.blk.cellSrc n = 0 →
    s.blk.on pgTU TU_LATTICE_FORCE_B = false →
    ∃ t, exec (.cellSourceFault n) s = .next t ∧ t.blk.evRaw (srcNode n 3) = true ∧
      ((s.blk.cell n).measured 1 = true → t.blk.cellSrc n = 1) ∧
      ((s.blk.cell n).measured 1 = false → (s.blk.cell n).measured 2 = true → t.blk.cellSrc n = 2) ∧
      ((s.blk.cell n).measured 1 = false → (s.blk.cell n).measured 2 = false → t.blk.cellSrc n = srcNONE) ∧
      Block.onlyWords [(pgTU, 0x200 + 4 * n), (pgNode n, 0x018)] s.blk t.blk ∧ s.unitsOnly [.regs, .events, .cells] t) ∧
  (∀ (s : State) (n src rtt rho : Nat) (a b : Bool), n < 112 → src < 3 → s.blk.domState (domOfNode n) = 0 →
    (s.blk.cell n).measured src = false →
    ∃ t, exec (.echoRound n src rtt rho a b) s = .next t ∧ (t.blk.cell n).delaysOf src = [(rtt - rho) / 2] ∧
      (∀ r, r ≠ src → (t.blk.cell n).delaysOf r = (s.blk.cell n).delaysOf r) ∧ (∀ m, m ≠ n → t.blk.cell m = s.blk.cell m) ∧
      s.blk.now < t.blk.now ∧ t.blk.now % (131072 * 256) = ((3 * n + src) * 256 + 64) * 256 ∧
      (s.blk.on pgTU (TU_CELL_READY n) = true → t.blk.now / (131072 * 256) % 8 = 0) ∧
      Block.onlyPages [pgTU] s.blk t.blk ∧ s.unitsOnly [.regs, .cnt, .events, .time, .cells] t)

/-! ### Shadowed fields (18 R525, R526; 04 R100, R103) -/

/-- PAGE_COMMIT (18 R525, 04 R103): a node's page puts its lane maps into use at once and its arbitration part at a frame boundary to come; every
other page but GT's counts it. SHADOW_DISCARD (18 R526): every RWS field of a node's page takes its live value, and the lane maps, which are
the steward's own, keep what they hold; it is refused while an activation is pending. -/
def Obligations.ShadowPages : Prop :=
  (∀ (s : State) (n : Nat), n < 112 → s.blk.pageUp n = true → (∀ p, p < 4 → s.blk.badProfile n p = false) → (s.blk.node n).arbAt = none →
    ∃ t, exec (.pageCommit n) s = .next t ∧
      t.blk.g n PG_COMMIT_COUNT = (s.blk.g n PG_COMMIT_COUNT + 1) % 2 ^ 16 ∧
      (∀ i, i < 8 → t.blk.rdLive n (0x100 + 4 * i) = s.blk.rd n (0x100 + 4 * i)) ∧ t.blk.on n NODE_ARB_PEND = true ∧
      (t.blk.node n).arbAt = some (frameBoundaryAfter (s.blk.cellNs n)) ∧
      Block.onlyWords [(n, 0x020), (n, 0x060)] s.blk t.blk ∧ s.unitsOnly [.regs, .live, .nodes] t) ∧
  (∀ (s : State) (p : Nat), isPage p = true → 112 ≤ p → p ≠ pgGT → s.blk.pageUp p = true →
    ∃ t, exec (.pageCommit p) s = .next t ∧ t.blk.g p PG_COMMIT_COUNT = (s.blk.g p PG_COMMIT_COUNT + 1) % 2 ^ 16 ∧
      Block.onlyWords [(p, 0x020)] s.blk t.blk ∧ s.unitsOnly [.regs] t) ∧
  (∀ (s : State) (n : Nat), n < 112 → s.blk.pageUp n = true → (s.blk.node n).arbAt = none →
    ∃ t, exec (.shadowDiscard n) s = .next t ∧
      (∀ off f, f ∈ fieldsAt n off → f.acc = .rws →
        bitsOf (t.blk.rd n off).toNat f.lo f.w = bitsOf (s.blk.rdLive n off).toNat f.lo f.w) ∧
      (∀ i, i < 8 → t.blk.rd n (0x100 + 4 * i) = s.blk.rd n (0x100 + 4 * i)) ∧
      Block.onlyPages [n] s.blk t.blk ∧ s.unitsOnly [.regs] t) ∧
  (∀ (s : State) (n : Nat), n < 112 → s.blk.pageUp n = true → (s.blk.node n).arbAt ≠ none →
    ∃ t, exec (.shadowDiscard n) s = .next t ∧ t.blk.on n PG_CTRL_REFUSED = true ∧
      Block.onlyWords [(n, 0x008)] s.blk t.blk ∧ s.unitsOnly [.regs] t)

/-! ### Commits at the target (06 R176-R192) -/

/-- PREPARE_RECEIVE (R176, R177): the first PREPARE of a commit opens its record and settles its source and T. STAGE_RECEIVE
(R178): a flit's two entries stand in the record at their indices, as sent. STAGE_END_RECEIVE (R45): COUNT and CRC are held. ARM_RECEIVE
(R183): an ARM for the record is noted, and one for none is discarded. -/
def Obligations.CommitPackets : Prop :=
  (∀ (s : State) (i : Nat) (p : Packet) (rest : List Packet), i < 216 → p.slot < 4 →
    takeFirst (fun q => q.opc == oPREPARE) (s.blk.ni i).rx = some (p, rest) → (s.blk.crec i p.slot).isOpen = false →
    ∃ t, exec (.prepareReceive i) s = .next t ∧ (t.blk.ni i).rx = rest ∧
      (t.blk.crec i p.slot).isOpen = true ∧ (t.blk.crec i p.slot).cseq = p.cseq ∧ (t.blk.crec i p.slot).prep = true ∧
      (t.blk.crec i p.slot).src = bitsOf p.payloadNat 64 9 ∧ (t.blk.crec i p.slot).swap = bit p.payloadNat 78 ∧
      (t.blk.crec i p.slot).tNs = (if bit p.payloadNat 76 then some (nsOfStamp (bitsOf p.payloadNat 0 64)) else none) ∧
      s.unitsOnly [.regs, .cnt, .events, .nis] t) ∧
  (∀ (s : State) (i : Nat) (p : Packet) (d : BitVec 128) (rest : List Packet), i < 192 → p.slot < 4 →
    takeFirst (fun q => q.opc == oSTAGE) (s.blk.ni i).rx = some (p, rest) → (s.blk.crec i p.slot).isOpen = true →
    (s.blk.crec i p.slot).cseq = p.cseq → (s.blk.crec i p.slot).prep = false → (s.blk.crec i p.slot).vote = none →
    (s.blk.crec i p.slot).noStage = false → (s.blk.crec i p.slot).staged = true → (s.blk.crec i p.slot).full = false →
    p.len = 15 → p.flits = [(d, false)] → p.first < 1023 → (s.blk.crec i p.slot).entry p.first = none → (s.blk.crec i p.slot).entry (p.first + 1) = none →
    s.blk.on pgMM MM_FLIPMASK_ARM = false →
    ∃ t, exec (.stageReceive i) s = .next t ∧ (t.blk.ni i).rx = rest ∧
      (t.blk.crec i p.slot).entry p.first = some { bits := BitVec.ofNat 64 d.toNat, bad := false, src := p.src, half := 0 } ∧
      (t.blk.crec i p.slot).entry (p.first + 1) =
        some { bits := BitVec.ofNat 64 (d.toNat / 2 ^ 64), bad := false, src := p.src, half := 1 } ∧
      Block.onlyPages [pgNi i] s.blk t.blk ∧ s.unitsOnly [.regs, .nis] t) ∧
  (∀ (s : State) (i : Nat) (p : Packet) (rest : List Packet), i < 216 → p.slot < 4 →
    takeFirst (fun q => q.opc == oSTAGE_END) (s.blk.ni i).rx = some (p, rest) → (s.blk.crec i p.slot).isOpen = true →
    (s.blk.crec i p.slot).cseq = p.cseq → (s.blk.crec i p.slot).endAt = none → (s.blk.crec i p.slot).vote = none →
    ∃ t, exec (.stageEndReceive i) s = .next t ∧ (t.blk.ni i).rx = rest ∧
      (t.blk.crec i p.slot).endAt = some (bitsOf p.payloadNat 0 16, bitsOf p.payloadNat 64 64, s.blk.elapsed) ∧
      s.unitsOnly [.regs, .cnt, .events, .nis, .free] t) ∧
  (∀ (s : State) (i : Nat) (p : Packet) (rest : List Packet), i < 216 → p.slot < 4 →
    takeFirst (fun q => q.opc == oARM) (s.blk.ni i).rx = some (p, rest) →
    ∃ t, exec (.armReceive i) s = .next t ∧ (t.blk.ni i).rx = rest ∧
      ((s.blk.crec i p.slot).isOpen = true → (s.blk.crec i p.slot).cseq = p.cseq → (s.blk.crec i p.slot).vote = none →
        t.blk.crec i p.slot = { s.blk.crec i p.slot with armRx := true }) ∧
      ((s.blk.crec i p.slot).isOpen = false → t.blk.crec i p.slot = s.blk.crec i p.slot ∧ t.blk.evRaw (srcNi i 0) = true) ∧
      s.unitsOnly [.regs, .cnt, .events, .nis] t)

/-- VOTE_WAIT_EXPIRY (R179): 1 µs after PREPARE and STAGE_END the record reads its entries once and votes. RECORD_NO_PREPARE_EXPIRY, RECORD_NO_T_EXPIRY
(R177): the record is dropped 10 µs, 1.1 s on. SHADOW_LOAD_START, SHADOW_LOAD_COMPLETE, SHADOW_LOAD_PARITY_ERROR (R182; 09 R280,
R282): the load of an entry set takes the engine's shadow, in beats of four entries and after a running LP_DISCARD, ends, or is abandoned with
an event. -/
def Obligations.CommitRecords : Prop :=
  (∀ (s : State) (i k : Nat) (e : Nat × Nat × Nat), i < 216 → k < 4 → (s.blk.crec i k).isOpen = true → (s.blk.crec i k).prep = true →
    (s.blk.crec i k).vote = none → (s.blk.crec i k).endAt = some e →
    ∃ t, exec (.voteWaitExpiry i k) s = .next t ∧
      (t.blk.crec i k).vote = some (((s.blk.until (max (s.blk.crec i k).prepAt e.2.2 + 256000)).readSorus i k).voteCode i k) ∧
      t.blk.elapsed = max s.blk.elapsed (max (s.blk.crec i k).prepAt e.2.2 + 256000) ∧
      s.unitsOnly [.regs, .cnt, .events, .time, .nis, .free] t) ∧
  (∀ (s : State) (i k : Nat), i < 216 → k < 4 → (s.blk.crec i k).isOpen = true → (s.blk.crec i k).prep = false →
    ∃ t, exec (.recordNoPrepareExpiry i k) s = .next t ∧ t.blk.crec i k = {} ∧
      t.blk.elapsed = max s.blk.elapsed ((s.blk.crec i k).openedAt + 2560000) ∧ s.unitsOnly [.regs, .cnt, .events, .time, .nis] t) ∧
  (∀ (s : State) (i k : Nat), i < 216 → k < 4 → (s.blk.crec i k).isOpen = true → (s.blk.crec i k).prep = true →
    (s.blk.crec i k).tNs = none →
    ∃ t, exec (.recordNoTExpiry i k) s = .next t ∧ t.blk.crec i k = {} ∧
      t.blk.elapsed = max s.blk.elapsed ((s.blk.crec i k).prepAt + 281600000000) ∧
      s.unitsOnly [.regs, .cnt, .events, .time, .nis] t) ∧
  (∀ (s : State) (i k : Nat), i < 192 → k < 4 → (s.blk.crec i k).load = 1 → (s.blk.ni i).shadow = none → s.blk.stuck i = false →
    s.blk.lpHeld i = false →
    ∃ t, exec (.shadowLoadStart i k) s = .next t ∧
      t.blk.crec i k = { s.blk.crec i k with
        load := 2, loadAt := t.blk.elapsed, loaded := (s.blk.crec i k).list.map (fun e => e.1) } ∧
      (t.blk.ni i).shadow = some k ∧ (t.blk.ni i).outLoad = loadBeats ((s.blk.crec i k).list.map (fun e => e.2)) ∧
      t.blk.elapsed = max s.blk.elapsed (s.blk.ni i).lpDiscard ∧ s.unitsOnly [.cnt, .time, .nis] t) ∧
  (∀ (s : State) (i k : Nat), i < 192 → k < 4 → (s.blk.crec i k).load = 2 →
    ∃ t, exec (.shadowLoadComplete i k) s = .next t ∧ (t.blk.crec i k).load = 3 ∧
      ((s.blk.crec i k).armRx = false → (t.blk.crec i k).armed = (s.blk.crec i k).armed) ∧
      ((s.blk.crec i k).isOpen = true → (s.blk.crec i k).armRx = true → (s.blk.crec i k).vote = some voREADY →
        (s.blk.crec i k).tNs ≠ none → (t.blk.crec i k).armed = true) ∧
      Block.onlyPages [pgNi i] s.blk t.blk ∧ s.unitsOnly [.regs, .nis] t) ∧
  (∀ (s : State) (i k : Nat), i < 192 → k < 4 → (s.blk.crec i k).load = 2 →
    ∃ t, exec (.shadowLoadParityError i k) s = .next t ∧ t.blk.crec i k = { s.blk.crec i k with load := 4 } ∧
      (t.blk.ni i).shadow = none ∧ t.blk.evRaw (srcNi i 0) = true ∧ Block.onlyPages [pgNi i] s.blk t.blk ∧
      s.unitsOnly [.regs, .events, .nis] t)

/-- ABORT_MSG_RECEIVE, ABORT_LINE_RECEIVE (R184-R187): a record that is not armed is discarded and free. ABORT_LINE_INVALID
(R184, R188): the leaf ignores the tree for the slot, and the tree is not OK; a pair that is valid again counts again. BOTH_INVALID_CHECK
(R187): with both lines invalid 2 ns before T, by its own cell, an armed target discards. -/
def Obligations.CommitAborts : Prop :=
  (∀ (s : State) (i : Nat) (p : Packet) (rest : List Packet), i < 216 → p.slot < 4 →
    takeFirst (fun q => q.opc == oABORT_MSG) (s.blk.ni i).rx = some (p, rest) → (s.blk.crec i p.slot).cseq = p.cseq →
    (s.blk.crec i p.slot).isOpen = true → (s.blk.crec i p.slot).armed = false → (s.blk.crec i p.slot).applied = false →
    (s.blk.crec i p.slot).keep = false →
    ∃ t, exec (.abortMsgReceive i) s = .next t ∧ t.blk.crec i p.slot = {} ∧ (t.blk.ni i).rx = rest ∧
      Block.onlyPages [pgNi i] s.blk t.blk ∧ s.unitsOnly [.regs, .nis] t) ∧
  (∀ (s : State) (i k : Nat) (a b : Bool), i < 216 → k < 4 → (s.blk.slot k).lineUp = true → (a || b) = true →
    (s.blk.crec i k).isOpen = true → (s.blk.crec i k).armed = false → (s.blk.crec i k).applied = false → (s.blk.crec i k).keep = false →
    ∃ t, exec (.abortLineReceive i k a b) s = .next t ∧ t.blk.crec i k = {} ∧
      Block.onlyPages [pgNi i] s.blk t.blk ∧ s.unitsOnly [.regs, .nis] t) ∧
  (∀ (s : State) (i k tr : Nat), i < 216 → k < 4 → tr < 2 → (s.blk.ni i).badLines.contains (4 * tr + k) = false →
    ∃ t, exec (.abortLineInvalid i k tr false) s = .next t ∧ (t.blk.ni i).badLines = (s.blk.ni i).badLines ++ [4 * tr + k] ∧
      t.blk.on pgCSQ (treeOk tr) = false ∧ t.blk.evRaw (srcCSQ (4 + tr)) = true ∧
      Block.onlyPages [pgCSQ] s.blk t.blk ∧ s.unitsOnly [.regs, .events, .nis, .csq] t) ∧
  (∀ (s : State) (i k tr : Nat), i < 216 → k < 4 → tr < 2 →
    ∃ t, exec (.abortLineInvalid i k tr true) s = .next t ∧ (t.blk.ni i).badLines.contains (4 * tr + k) = false ∧
      (∀ x, x ≠ 4 * tr + k → (t.blk.ni i).badLines.contains x = (s.blk.ni i).badLines.contains x) ∧
      (∀ j, j ≠ i → t.blk.ni j = s.blk.ni j) ∧ s.unitsOnly [.nis] t) ∧
  (∀ (s : State) (i k tn : Nat), i < 216 → k < 4 → (s.blk.crec i k).isOpen = true → (s.blk.crec i k).armed = true →
    (s.blk.crec i k).tNs = some tn → (s.blk.crec i k).applied = false → (s.blk.crec i k).keep = false →
    s.blk.niNow i + 512 ≤ tn * 256 →
    (s.blk.ni i).badLines.contains k = true → (s.blk.ni i).badLines.contains (4 + k) = true →
    ∃ t, exec (.bothInvalidCheck i k) s = .next t ∧ t.blk.crec i k = {} ∧ t.blk.niNow i = tn * 256 - 512 ∧
      Block.onlyPages [pgNi i] s.blk t.blk ∧ s.unitsOnly [.regs, .cnt, .time, .nis] t)

/-- COMMIT_RELEASE (R189; 10 R319): at T, by its own cell, an armed loop NI asks its engine to apply, and swaps its rule set if asked; one that
is not armed discards. RULE_SET_SWAP (10 R319): the NI changes its active set. APPLY_ACK_RECEIVE, APPLY_ACK_TIMEOUT (R190, R192): the record is
reported and free, with the port's wear or its failure counted. LP_APPLY_ACK_FALL (09 R281) ends the handshake. -/
def Obligations.CommitRelease : Prop :=
  (∀ (s : State) (i k tn : Nat), i < 192 → k < 4 → (s.blk.crec i k).isOpen = true → (s.blk.crec i k).tNs = some tn →
    (s.blk.crec i k).applied = false →
    ∃ t, exec (.commitRelease i k) s = .next t ∧ t.blk.niNow i = max (s.blk.niNow i) (tn * 256) ∧
      ((s.blk.crec i k).armed = true → (s.blk.crec i k).noStage = false → (s.blk.ni i).lpAck = false → s.blk.lpHeld i = false →
        t.blk.crec i k = { s.blk.crec i k with applied := true } ∧ (t.blk.ni i).lpApply = true ∧
        (t.blk.ni i).swapAt = (if (s.blk.crec i k).swap = true then some (tn * 256) else (s.blk.ni i).swapAt)) ∧
      ((s.blk.crec i k).armed = false → t.blk.crec i k = {}) ∧
      Block.onlyPages [pgNi i] s.blk t.blk ∧ s.unitsOnly [.regs, .cnt, .time, .nis] t) ∧
  (∀ (s : State) (i tn : Nat), i < 216 → (s.blk.ni i).swapAt = some tn →
    ∃ t, exec (.ruleSetSwap i) s = .next t ∧ t.blk.activeSet i = 1 - s.blk.activeSet i ∧
      t.blk.ni i = { s.blk.ni i with swapAt := none } ∧ t.blk.niNow i = max (s.blk.niNow i) tn ∧
      (∀ j, j < 216 → j ≠ i → t.blk.activeSet j = s.blk.activeSet j) ∧ Block.onlyPages [pgGT] s.blk t.blk ∧
      s.unitsOnly [.regs, .cnt, .time, .nis] t) ∧
  (∀ (s : State) (i k d tn : Nat), i < 192 → k < 4 → (s.blk.ni i).lpAck = false → (s.blk.crec i k).applied = true →
    (s.blk.ni i).lpApply = true → (s.blk.crec i k).tNs = some tn → (s.blk.advance d).niNow i ≤ tn * 256 + 16384 →
    ∃ t, exec (.applyAckReceive i k d) s = .next t ∧ t.blk.crec i k = {} ∧ (t.blk.ni i).lpAck = true ∧ (t.blk.ni i).lpApply = false ∧
      t.blk.now = s.blk.now + d ∧ Block.onlyPages [pgNi i] s.blk t.blk ∧ s.unitsOnly [.regs, .cnt, .time, .nis] t) ∧
  (∀ (s : State) (i k tn : Nat), i < 192 → k < 4 → (s.blk.crec i k).applied = true → (s.blk.crec i k).tNs = some tn →
    ∃ t, exec (.applyAckTimeout i k) s = .next t ∧ t.blk.crec i k = {} ∧ t.blk.niNow i = max (s.blk.niNow i) (tn * 256 + 16384) ∧
      t.blk.g (pgNi i) NI_LP_STAT_APPLY_FAILS =
        satAdd NI_LP_STAT_APPLY_FAILS.w (s.blk.g (pgNi i) NI_LP_STAT_APPLY_FAILS) 1 ∧ t.blk.evRaw (srcNi i 1) = true ∧
      Block.onlyPages [pgNi i] s.blk t.blk ∧ s.unitsOnly [.regs, .cnt, .events, .time, .nis] t) ∧
  (∀ (s : State) (i : Nat), i < 192 → ∃ t, exec (.lpApplyAckFall i) s = .next t ∧ t.blk.ni i = { s.blk.ni i with lpAck := false } ∧
      (∀ j, j ≠ i → t.blk.ni j = s.blk.ni j) ∧ s.unitsOnly [.nis] t)

/-! ### The commit sequencer (06 R163-R211) -/

/-- CSQ_OPEN, CSQ_LAUNCH, CSQ_ABORT (R169, R170): a command that a check refuses shows its code and starts nothing; an accepted
OPEN or LAUNCH of an IDLE slot takes the next commit identity; a LAUNCH of an OPEN slot goes on to VOTING, or to ARMING with every
vote READY; an ABORT takes an undecided slot to ABORTING, unless there is no report to wait for. -/
def Obligations.CsqCommands : Prop :=
  (∀ (s : State) (k : Nat) (v : Word), k < 4 → s.blk.niUp 206 = true → (s.blk.writeCtrl k v).earlyChecks k false ≠ 0 →
    ∃ t, exec (.csqOpen k v) s = .next t ∧
      t.blk.g pgCSQ (CSQ_SLOT_REFUSE k) = (s.blk.writeCtrl k v).earlyChecks k false ∧ t.blk.slotState k = s.blk.slotState k ∧
      t.blk.csq = s.blk.csq ∧ Block.onlyWords [(pgCSQ, 0x100 + 0x80 * k), (pgCSQ, 0x018)] s.blk t.blk ∧
      s.unitsOnly [.regs, .events] t) ∧
  (∀ (s : State) (k : Nat) (v : Word), k < 4 → s.blk.niUp 206 = true → (s.blk.writeCtrl k v).earlyChecks k false = 0 →
    s.blk.slotState k = slIDLE →
    (Sys.askFrond { blk := s.blk.writeCtrl k v, mem := s.mem } k false).2.blk.lateChecks k
      (Sys.askFrond { blk := s.blk.writeCtrl k v, mem := s.mem } k false).1 = 0 →
    ∃ t, exec (.csqOpen k v) s = .next t ∧ t.blk.slotState k = slOPEN ∧ t.blk.g pgCSQ (CSQ_SLOT_REFUSE k) = 0 ∧
      t.blk.g pgCSQ (CSQ_SLOT_CSEQ k) = s.blk.csq.cid % 2 ^ 16 ∧ t.blk.csq.cid = (s.blk.csq.cid + 1) % 2 ^ 32 ∧
      t.pending = s.pending) ∧
  (∀ (s : State) (k : Nat) (v : Word), k < 4 → s.blk.niUp 206 = true → (s.blk.writeCtrl k v).earlyChecks k true ≠ 0 →
    ∃ t, exec (.csqLaunch k v) s = .next t ∧
      t.blk.g pgCSQ (CSQ_SLOT_REFUSE k) = (s.blk.writeCtrl k v).earlyChecks k true ∧ t.blk.slotState k = s.blk.slotState k ∧
      t.blk.csq = s.blk.csq ∧ Block.onlyWords [(pgCSQ, 0x100 + 0x80 * k), (pgCSQ, 0x018)] s.blk t.blk ∧
      s.unitsOnly [.regs, .events] t) ∧
  (∀ (s : State) (k : Nat) (v : Word), k < 4 → s.blk.niUp 206 = true → (s.blk.writeCtrl k v).earlyChecks k true = 0 →
    s.blk.slotState k = slIDLE →
    (Sys.askFrond { blk := s.blk.writeCtrl k v, mem := s.mem } k true).2.blk.lateChecks k
      (Sys.askFrond { blk := s.blk.writeCtrl k v, mem := s.mem } k true).1 = 0 →
    ∃ t, exec (.csqLaunch k v) s = .next t ∧ t.blk.slotState k = slVOTING ∧ t.blk.g pgCSQ (CSQ_SLOT_REFUSE k) = 0 ∧
      t.blk.g pgCSQ (CSQ_SLOT_CSEQ k) = s.blk.csq.cid % 2 ^ 16 ∧ t.blk.csq.cid = (s.blk.csq.cid + 1) % 2 ^ 32 ∧
      t.pending = s.pending) ∧
  (∀ (s : State) (k : Nat) (v : Word), k < 4 → s.blk.niUp 206 = true → (s.blk.writeCtrl k v).earlyChecks k true = 0 →
    s.blk.slotState k = slOPEN →
    (Sys.askFrond { blk := s.blk.writeCtrl k v, mem := s.mem } k true).2.blk.lateChecks k
      (Sys.askFrond { blk := s.blk.writeCtrl k v, mem := s.mem } k true).1 = 0 →
    ∃ t, exec (.csqLaunch k v) s = .next t ∧
      t.blk.slotState k = (if (Sys.askFrond { blk := s.blk.writeCtrl k v, mem := s.mem } k true).2.blk.allReady k then slARMING
        else slVOTING) ∧
      t.blk.g pgCSQ (CSQ_SLOT_CSEQ k) = s.blk.g pgCSQ (CSQ_SLOT_CSEQ k) ∧ t.pending = s.pending) ∧
  (∀ (s : State) (k : Nat) (v : Word), k < 4 → s.blk.niUp 206 = true → s.blk.undecided k = true → (s.blk.slot k).allReported = false →
    ∃ t, exec (.csqAbort k v) s = .next t ∧ t.blk.slotState k = slABORTING ∧ (t.blk.slot k).abort = some (4, 1, s.blk.elapsed) ∧
      t.pending = s.pending) ∧
  (∀ (s : State) (k : Nat) (v : Word), k < 4 → s.blk.niUp 206 = true → s.blk.undecided k = true → (s.blk.slot k).allReported = true →
    ∃ t, exec (.csqAbort k v) s = .next t ∧ t.blk.slotState k = slIDLE ∧ t.pending = s.pending) ∧
  (∀ (s : State) (k : Nat) (v : Word), k < 4 → s.blk.niUp 206 = true → s.blk.undecided k = false →
    ∃ t, exec (.csqAbort k v) s = .next t ∧ t.blk.g pgCSQ (CSQ_SLOT_REFUSE k) = 1 ∧ t.blk.slotState k = s.blk.slotState k ∧
      t.blk.csq = s.blk.csq ∧ s.unitsOnly [.regs, .events] t)

/-- VOTE_RECEIVE, ARM_ACK_RECEIVE, RELEASED_RECEIVE (R167, R171, R172, R192): what a target of the commit sends is held with it, and the last
one moves the slot on: an ARM_ACK only where the CSQ's NI accepted it by T − GUARD_EFF, by the CSQ's cell. -/
def Obligations.CsqArrivals : Prop :=
  (∀ (s : State) (p : Packet) (rest : List Packet), p.slot < 4 → takeFirst (fun q => q.opc == oVOTE) (s.blk.ni 206).rx = some (p, rest) →
    s.blk.g pgCSQ (CSQ_SLOT_CSEQ p.slot) = p.cseq → s.blk.slotState p.slot = slOPEN → (s.blk.slot p.slot).prepared.contains p.src = true →
    ((s.blk.slot p.slot).vote p.src).code = voPENDING →
    ∃ t, exec .voteReceive s = .next t ∧ (t.blk.ni 206).rx = rest ∧
      (t.blk.slot p.slot).vote p.src = { code := bitsOf p.payloadNat 0 4, count := bitsOf p.payloadNat 16 16,
                                         crc := bitsOf p.payloadNat 64 64 } ∧
      t.blk.slotState p.slot = slOPEN ∧ s.unitsOnly [.nis, .csq] t) ∧
  (∀ (s : State) (p : Packet) (rest : List Packet), p.slot < 4 → takeFirst (fun q => q.opc == oARM_ACK) (s.blk.ni 206).rx = some (p, rest) →
    s.blk.g pgCSQ (CSQ_SLOT_CSEQ p.slot) = p.cseq → s.blk.slotState p.slot = slARMING → (s.blk.slotTargets p.slot).contains p.src = true →
    (s.blk.slot p.slot).acks.contains p.src = false →
    ∃ t, exec .armAckReceive s = .next t ∧ (t.blk.ni 206).rx = rest ∧
      (t.blk.slot p.slot).acks = (s.blk.slot p.slot).acks ++ [p.src] ∧
      ((∀ i ∈ s.blk.slotTargets p.slot, i = p.src ∨ i ∈ (s.blk.slot p.slot).acks) →
        s.blk.cameBy p (s.blk.slot p.slot).tNs (s.blk.guardNs p.slot) = true → t.blk.slotState p.slot = slDECIDED) ∧
      ((∃ i ∈ s.blk.slotTargets p.slot, i ≠ p.src ∧ i ∉ (s.blk.slot p.slot).acks) ∨
        s.blk.cameBy p (s.blk.slot p.slot).tNs (s.blk.guardNs p.slot) = false → t.blk.slotState p.slot = slARMING) ∧
      Block.onlyWords [(pgCSQ, 0x100 + 0x80 * p.slot)] s.blk t.blk ∧ s.unitsOnly [.regs, .nis, .csq] t) ∧
  (∀ (s : State) (p : Packet) (rest : List Packet), p.slot < 4 → takeFirst (fun q => q.opc == oRELEASED) (s.blk.ni 206).rx = some (p, rest) →
    s.blk.g pgCSQ (CSQ_SLOT_CSEQ p.slot) = p.cseq → s.blk.slotState p.slot = slDECIDED ∨ s.blk.slotState p.slot = slABORTING →
    (s.blk.slot p.slot).prepared.contains p.src = true → (s.blk.slot p.slot).report p.src = none →
    ∃ t, exec .releasedReceive s = .next t ∧ (t.blk.ni 206).rx = rest ∧
      ((∀ i ∈ (s.blk.slot p.slot).prepared, i = p.src ∨ (s.blk.slot p.slot).report i ≠ none) → t.blk.slotState p.slot = slIDLE) ∧
      ((∃ i ∈ (s.blk.slot p.slot).prepared, i ≠ p.src ∧ (s.blk.slot p.slot).report i = none) →
        t.blk.slotState p.slot = s.blk.slotState p.slot ∧ (t.blk.slot p.slot).report p.src ≠ none) ∧
      t.mem = s.mem ∧ t.pending = s.pending)

/-- VOTE_CUTOFF, GUARD_DEADLINE, OPEN_LIMIT_EXPIRY (R167, R171, R172): with nothing left in the CSQ's NI that came in time, a slot that is late
by the CSQ's cell is aborted with its code, and waits for reports; a target that has not voted counts as NONE. REPORT_DEADLINE (R193): 2 µs on,
the outcome is fixed and the slot IDLE. -/
def Obligations.CsqDeadlines : Prop :=
  (∀ (s : State) (k : Nat), k < 4 → s.blk.slotState k = slVOTING → (s.blk.slot k).allReported = false →
    takeFirst (fun q => q.opc == oVOTE) (s.blk.ni 206).rx = none →
    ∃ t, exec (.voteCutoff k) s = .next t ∧ t.blk.slotState k = slABORTING ∧
      t.blk.csqNow = max s.blk.csqNow (((s.blk.slot k).tNs - s.blk.cutoffNs k) * 256) ∧
      (∀ i ∈ (s.blk.slot k).prepared, ((s.blk.slot k).vote i).code = voPENDING → ((t.blk.slot k).vote i).code = voNONE) ∧
      (t.blk.slot k).abort = some (2, 0, t.blk.elapsed) ∧ t.pending = s.pending) ∧
  (∀ (s : State) (k : Nat), k < 4 → s.blk.slotState k = slARMING → (s.blk.slot k).allReported = false →
    takeFirst (fun q => q.opc == oARM_ACK) (s.blk.ni 206).rx = none →
    ∃ t, exec (.guardDeadline k) s = .next t ∧ t.blk.slotState k = slABORTING ∧
      t.blk.csqNow = max s.blk.csqNow (((s.blk.slot k).tNs - s.blk.guardNs k) * 256) ∧
      (t.blk.slot k).abort = some (3, 0, t.blk.elapsed) ∧ ((s.blk.slot k).armSent = true → (t.blk.slot k).lineUp = true) ∧
      t.pending = s.pending) ∧
  (∀ (s : State) (k : Nat), k < 4 → s.blk.slotState k = slOPEN → (s.blk.slot k).allReported = false →
    ∃ t, exec (.openLimitExpiry k) s = .next t ∧ t.blk.slotState k = slABORTING ∧
      t.blk.elapsed = max s.blk.elapsed ((s.blk.slot k).openAt +
        clamp 1 1000 (s.blk.g pgCSQ CSQ_POLICY_OPEN_LIMIT) * 256000000) ∧
      (t.blk.slot k).abort = some (4, 3, t.blk.elapsed) ∧ t.pending = s.pending) ∧
  (∀ (s : State) (k : Nat), k < 4 → s.blk.slotState k = slDECIDED →
    takeFirst (fun q => q.opc == oRELEASED) (s.blk.ni 206).rx = none →
    ∃ t, exec (.reportDeadline k) s = .next t ∧ t.blk.slotState k = slIDLE ∧
      t.blk.csqNow = max s.blk.csqNow ((s.blk.slot k).tNs * 256 + 512000) ∧
      t.blk.g pgCSQ (CSQ_OUTCOME_CODE k) = (s.blk.slot k).outcome true % 16 ∧
      t.mem = s.mem ∧ t.pending = s.pending) ∧
  (∀ (s : State) (k code cause since : Nat), k < 4 → s.blk.slotState k = slABORTING → (s.blk.slot k).abort = some (code, cause, since) →
    takeFirst (fun q => q.opc == oRELEASED) (s.blk.ni 206).rx = none →
    ∃ t, exec (.reportDeadline k) s = .next t ∧ t.blk.slotState k = slIDLE ∧ t.blk.elapsed = max s.blk.elapsed (since + 512000) ∧
      t.mem = s.mem ∧ t.pending = s.pending)

/-- ABORT_NET_TEST, ABORT_NET_PERIODIC_TEST (R188): a pulse goes out on each idle line, or on the one named. ABORT_TEST_RETURN (R188,
R205): a return gives the tree's delay, the worst so far, and the third pass in a row its OK. ABORT_TEST_TIMEOUT (R188, R205): 32 ns
without a return take the OK and the delay away, with an event. LOCKSTEP_MISMATCH, CSQ_LOCKSTEP_RESET (R197, R432): a mismatch is held
and raises its event, and the reset ends it with every slot IDLE. -/
def Obligations.AbortNet : Prop :=
  (∀ s : State, s.blk.niUp 206 = true →
    ∃ t, exec .abortNetTest s = .next t ∧
      (∀ tr k, tr < 2 → k < 4 → (s.blk.slot k).lineUp = false → (4 * tr + k, s.blk.elapsed) ∈ t.blk.csq.tests) ∧ s.unitsOnly [.csq] t) ∧
  (∀ (s : State) (tr k : Nat), tr < 2 → k < 4 → s.blk.niUp 206 = true → (s.blk.slot k).lineUp = false →
    ∃ t, exec (.abortNetPeriodicTest tr k) s = .next t ∧ t.blk.csq.tests = s.blk.csq.tests ++ [(4 * tr + k, s.blk.elapsed)] ∧
      s.unitsOnly [.csq] t) ∧
  (∀ (s : State) (tr k d : Nat) (q : Nat × Nat), tr < 2 → k < 4 → d < 255 → s.blk.csq.tests.find? (fun x => x.1 == 4 * tr + k) = some q →
    s.blk.elapsed ≤ q.2 + 8192 →
    ∃ t, exec (.abortTestReturn tr k d) s = .next t ∧ t.blk.csq.tests = s.blk.csq.tests.erase q ∧
      t.blk.elapsed = max s.blk.elapsed (q.2 + d * 32) ∧
      t.blk.g pgCSQ (treeDelay tr) =
        (if s.blk.g pgCSQ (treeDelay tr) = 0xFF then d else max (s.blk.g pgCSQ (treeDelay tr)) d) ∧
      (s.blk.passes tr = 2 → (∀ r ∈ s.blk.csq.tests.erase q, r.1 / 4 ≠ tr ∨ r.2 ≠ q.2) → t.blk.on pgCSQ (treeOk tr) = true) ∧
      Block.onlyWords [(pgCSQ, 0x050)] s.blk t.blk ∧ s.unitsOnly [.regs, .cnt, .time, .csq] t) ∧
  (∀ (s : State) (tr k : Nat) (q : Nat × Nat), tr < 2 → k < 4 → s.blk.csq.tests.find? (fun x => x.1 == 4 * tr + k) = some q →
    ∃ t, exec (.abortTestTimeout tr k) s = .next t ∧ t.blk.on pgCSQ (treeOk tr) = false ∧ t.blk.g pgCSQ (treeDelay tr) = 0xFF ∧
      t.blk.evRaw (srcCSQ (4 + tr)) = true ∧ t.blk.elapsed = max s.blk.elapsed (q.2 + 8192) ∧
      Block.onlyPages [pgCSQ] s.blk t.blk ∧ s.unitsOnly [.regs, .cnt, .events, .time, .csq] t) ∧
  (∀ s : State, s.blk.niUp 206 = true → ∃ t, exec .lockstepMismatch s = .next t ∧ t.blk.csq = { s.blk.csq with bad := true } ∧
      t.blk.evRaw (srcCSQ 6) = true ∧ Block.onlyWords [(pgCSQ, 0x018)] s.blk t.blk ∧ s.unitsOnly [.regs, .events, .csq] t) ∧
  (∀ s : State, s.blk.csq.bad = true → s.blk.safe = false → s.blk.allSlotsIdle = true →
    ∃ t, exec .csqLockstepReset s = .next t ∧ t.blk.csq = { s.blk.csq with bad := false } ∧ s.unitsOnly [.csq] t)

/-! ### The frame store (07 R215-R233) -/

/-- FROND_SEAL (R219, R220), FROND_RETIRE (R221), with no command running: SEAL_BUSY is set and the command held; a seal with a place asks the
bank port for its reads; a frond that the bank does not define is answered at once. SEAL_COMPLETE, RETIRE_COMPLETE (R219-R221): once what was
read decides it, DONE with the code of the checks; a retired segment's granules and descriptor are zero. STREAM_PACKET_SEND (R226): with its last
packet injected and the entries of the next read, a streamer sends a STAGE and its stream moves on; a stream whose entries are all sent ends. -/
def Obligations.Fronds : Prop :=
  (∀ (s : State) (k : Nat) (v : Word), k < 8 →
    ∃ t, exec (.frondSeal k v) s = .next t ∧
      (s.blk.on (pgFs k) FS_STATUS_SEAL_BUSY = true → t.blk.on (pgFs k) FS_SEAL_RESULT_REFUSED_BUSY = true ∧ t.blk.fs = s.blk.fs) ∧
      (s.blk.on (pgFs k) FS_STATUS_SEAL_BUSY = false → t.blk.on (pgFs k) FS_STATUS_SEAL_BUSY = true ∧
        t.blk.on (pgFs k) FS_SEAL_RESULT_DONE = false ∧ t.blk.g (pgFs k) FS_SEAL_RESULT_FROND_ID = bitsOf v.toNat 16 10 ∧
        (t.blk.fsb k).sealing = some
          { frond := bitsOf v.toNat 16 10, base := s.blk.g (pgFs k) FS_SEAL_ARG0_BASE, size := s.blk.g (pgFs k) FS_SEAL_ARG0_SIZE,
            n := s.blk.g (pgFs k) FS_SEAL_ARG1_N_STREAMS, mask := s.blk.g (pgFs k) FS_SEAL_ARG1_BANK_MASK,
            gen := s.blk.g (pgFs k) FS_SEAL_ARG1_GEN } ∧
        (1 ≤ s.blk.g (pgFs k) FS_SEAL_ARG0_SIZE → s.blk.g (pgFs k) FS_SEAL_ARG0_BASE + s.blk.g (pgFs k) FS_SEAL_ARG0_SIZE ≤ 8048 →
          (t.blk.port k).wait = (s.blk.port k).wait ++
            [{ who := 4, qos := s.blk.g (pgFs k) FS_STREAM_SEAL_QOS, job := .seal }])) ∧
      Block.onlyPages [pgFs k] s.blk t.blk ∧ s.unitsOnly [.regs, .ports, .fs] t) ∧
  (∀ (s : State) (k c : Nat) (x : Seal), k < 8 → (s.blk.fsb k).sealing = some x →
    (Sys.readMarked { blk := s.blk, mem := s.mem } (granuleAddr k x.base) (granuleAddr k x.base + 2 * x.size)).2.2.sealCheck k x = some c →
    ∃ t, exec (.sealComplete k) s = .next t ∧ t.blk.on (pgFs k) FS_STATUS_SEAL_BUSY = false ∧
      t.blk.on (pgFs k) FS_SEAL_RESULT_DONE = true ∧ (t.blk.fsb k).sealing = none ∧ t.blk.g (pgFs k) FS_SEAL_RESULT_CODE = c ∧
      t.pending = s.pending ∧ Block.onlyParts [.regs, .events, .nis, .ports, .fs, .mm, .free] s.blk t.blk) ∧
  (∀ (s : State) (k : Nat) (x : Seal), k < 8 → (s.blk.fsb k).sealing = some x →
    (Sys.readMarked { blk := s.blk, mem := s.mem } (granuleAddr k x.base) (granuleAddr k x.base + 2 * x.size)).2.2.sealCheck k x = none →
    ∃ t, exec (.sealComplete k) s = .next t ∧ (t.blk.fsb k).sealing = some x ∧
      t.blk.on (pgFs k) FS_STATUS_SEAL_BUSY = s.blk.on (pgFs k) FS_STATUS_SEAL_BUSY ∧
      t.pending = s.pending ∧ Block.onlyParts [.regs, .events, .fs, .mm, .free] s.blk t.blk) ∧
  (∀ (s : State) (k : Nat) (v : Word), k < 8 → s.blk.on (pgFs k) FS_STATUS_SEAL_BUSY = false →
    s.blk.on pgMM MM_FLIPMASK_ARM = false → (s.mem.flagsAt (descAddr k (bitsOf v.toNat 16 10) / 16)).flips = [] →
    ∃ t, exec (.frondRetire k v) s = .next t ∧ t.blk.g (pgFs k) FS_SEAL_RESULT_FROND_ID = bitsOf v.toNat 16 10 ∧
      ((Sys.desc { blk := s.blk, mem := s.mem } k (bitsOf v.toNat 16 10)).defined = true →
        t.blk.on (pgFs k) FS_STATUS_SEAL_BUSY = true ∧ (t.blk.fsb k).retiring = some (bitsOf v.toNat 16 10)) ∧
      ((Sys.desc { blk := s.blk, mem := s.mem } k (bitsOf v.toNat 16 10)).defined = false →
        t.blk.on (pgFs k) FS_SEAL_RESULT_DONE = true ∧ t.blk.g (pgFs k) FS_SEAL_RESULT_CODE = sealNOT_DEFINED ∧ t.mem = s.mem) ∧
      t.pending = s.pending ∧ Block.onlyPages [pgFs k] s.blk t.blk ∧ Block.onlyParts [.regs, .fs, .mm] s.blk t.blk) ∧
  (∀ (s : State) (k id : Nat), k < 8 → (s.blk.fsb k).retiring = some id →
    (Sys.desc { blk := s.blk, mem := s.mem } k id).pinned = false → s.blk.on pgMM MM_FLIPMASK_ARM = false →
    (∀ g, g < (Sys.desc { blk := s.blk, mem := s.mem } k id).size →
      (s.mem.flagsAt (granuleAddr k ((Sys.desc { blk := s.blk, mem := s.mem } k id).base + g) / 16)).flips = []) →
    ∃ t, exec (.retireComplete k) s = .next t ∧ t.blk.on (pgFs k) FS_SEAL_RESULT_DONE = true ∧
      t.blk.g (pgFs k) FS_SEAL_RESULT_CODE = sealOK ∧ (t.blk.fsb k).retiring = none ∧
      (∀ j, j < 128 → t.mem.byteAt (descAddr k id + j) = 0) ∧
      (∀ g, g < (Sys.desc { blk := s.blk, mem := s.mem } k id).size →
        t.mem.byteAt (granuleAddr k ((Sys.desc { blk := s.blk, mem := s.mem } k id).base + g)) = 0) ∧
      t.pending = s.pending ∧ Block.onlyPages [pgFs k] s.blk t.blk ∧ Block.onlyParts [.regs, .fs, .mm] s.blk t.blk) ∧
  (∀ (s : State) (k a : Nat) (x : StreamRead), k < 8 → a < 2 → s.blk.streamOut k a = none →
    AMap.get none (s.blk.fsb k).reads a = some x → x.left = 0 →
    ∃ t, exec (.streamPacketSend k a) s = .next t ∧ AMap.get 3 (t.blk.fsb k).last a = x.s.slot ∧
      AMap.get none (t.blk.fsb k).flying a = some x.s ∧
      (t.blk.fsb k).queue a = ((s.blk.fsb k).queue a).map (fun y => if y = x.s then { y with next := y.next + 1 } else y) ∧
      Block.onlyPages [pgFs k] s.blk t.blk ∧ s.unitsOnly [.regs, .nis, .ports, .fs] t) ∧
  (∀ (s : State) (k a : Nat) (x : Stream), k < 8 → a < 2 → s.blk.streamOut k a = none →
    AMap.get none (s.blk.fsb k).reads a = none → (s.blk.fsb k).turn a = some x → x.next = x.stages →
    ∃ t, exec (.streamPacketSend k a) s = .next t ∧ AMap.get 3 (t.blk.fsb k).last a = x.slot ∧
      AMap.get none (t.blk.fsb k).flying a = some x ∧ (t.blk.fsb k).queue a = ((s.blk.fsb k).queue a).erase x ∧
      s.unitsOnly [.nis, .ports, .fs] t)

/-! ### The evidence log (08 R234-R266) -/

/-- RECORD_FORM (R242, R252, R253): the first record that waits is formed where it may be, chained to the last, else omitted into a gap; a gap
that may close is formed before it, and with nothing waiting a disable ends in its GAP and the log forms nothing from then on.
CHECKPOINT_FORM (R244, R245): the run starts again with the checkpoint, and the ring moves on. -/
def Obligations.Records : Prop :=
  (∀ (s : State) (d : RecData) (rest : List RecData), s.blk.evl.booted = true →
    s.blk.dueFirst = false → (s.blk.lc.handed && !s.blk.lcInvalid) = false →
    s.blk.evl.gap = none → s.blk.evl.queue = d :: rest → s.blk.canForm d = true →
    ∃ t, exec .recordForm s = .next t ∧ t.blk.evl.queue = rest ∧ t.blk.evl.index = s.blk.evl.index + 1 ∧
      t.blk.rd pgEVL 0x048 = BitVec.ofNat 32 (s.blk.g pgEVL EVL_HEAD_P + 1) ∧
      t.blk.evl.lastMac = (s.blk.recHead d.typ d.body ++ hmac s.blk.hmacKey (s.blk.recHead d.typ d.body)).drop 0xE0 ∧
      t.pending = s.pending ∧ Block.onlyParts [.regs, .events, .fs, .evl, .mm, .free] s.blk t.blk) ∧
  (∀ (s : State) (d : RecData) (rest : List RecData), s.blk.evl.booted = true →
    s.blk.dueFirst = false → (s.blk.lc.handed && !s.blk.lcInvalid) = false →
    s.blk.evl.gap = none → s.blk.evl.queue = d :: rest → s.blk.canForm d = false →
    ∃ t g, exec .recordForm s = .next t ∧ t.blk.evl.queue = rest ∧ t.blk.evl.index = s.blk.evl.index ∧ t.blk.evl.gap = some g ∧
      g.omitted = 1 ∧ t.blk.on pgEVL EVL_STATUS_GAP_OPEN = true ∧ t.blk.evRaw (srcEVL 0) = true ∧
      Block.onlyWords [(pgEVL, 0x040), (pgEVL, 0x018)] s.blk t.blk ∧ s.unitsOnly [.regs, .events, .evl] t) ∧
  (∀ (s : State) (g : Gap), s.blk.evl.booted = true → s.blk.dueFirst = false →
    (s.blk.lc.handed && !s.blk.lcInvalid) = false → s.blk.evl.gap = some g → s.blk.gapReady = true →
    ∃ t, exec .recordForm s = .next t ∧ t.blk.evl.queue = s.blk.evl.queue ∧ t.blk.evl.index = s.blk.evl.index + 1 ∧
      t.blk.evl.gap = none ∧ t.blk.on pgEVL EVL_STATUS_GAP_OPEN = false ∧ t.pending = s.pending ∧
      Block.onlyParts [.regs, .events, .fs, .evl, .mm, .free] s.blk t.blk) ∧
  (∀ s : State, s.blk.evl.booted = true → s.blk.dueFirst = false → (s.blk.lc.handed && !s.blk.lcInvalid) = false →
    s.blk.evl.gap = none → s.blk.evl.queue = [] → s.blk.evl.disabling = true → s.blk.evl.resv = 0 → s.blk.lcInvalid = false →
    1 ≤ s.blk.evlFree →
    ∃ t, exec .recordForm s = .next t ∧ t.blk.logActive = false ∧ t.blk.evl.disabling = false ∧
      t.blk.evl.index = s.blk.evl.index + 1 ∧ t.pending = s.pending ∧
      Block.onlyParts [.regs, .events, .fs, .evl, .mm, .free] s.blk t.blk) ∧
  (∀ (s : State) (reason : Nat) (ok : Bool), s.blk.evl.due = some reason → s.blk.evl.booted = true →
    (s.blk.lc.handed && !s.blk.lcInvalid) = false →
    s.blk.canForm { typ := tyCHECKPOINT, body := s.blk.ckptBody reason [] } = true →
    ∃ t, exec (.checkpointForm ok) s = .next t ∧ t.blk.evl.due = none ∧ t.blk.evl.run.length = 1 ∧
      t.blk.evl.ringNext = (s.blk.evl.ringNext + 1) % 64 ∧ t.blk.evl.index = s.blk.evl.index + 1 ∧
      t.blk.evl.lastCkpt = some s.blk.elapsed ∧ t.blk.on pgEVL EVL_CKPT_RING_VALID = true ∧
      (ok = false → t.blk.on pgEVL EVL_STATUS_CKPT_WR_ERR = true ∧ t.blk.evRaw (srcEVL 2) = true) ∧
      (reason = ckHANDOVER → t.blk.lc.handed = true) ∧
      t.pending = s.pending ∧ Block.onlyParts [.regs, .events, .fs, .evl, .mm, .lc, .free] s.blk t.blk)

/-- CHECKPOINT_TIMER, CHECKPOINT_REQUEST, CHECKPOINT_HOLD_EXPIRY (R243): a checkpoint becomes due every second, and at a host's
request at the earliest 10 ms after the last. LOG_DISABLE, LOG_ENABLE (R253): ENABLE changes with its event, and enabling opens
a gap with that reason; under LOCK the write is refused (log 103: one that changes nothing too). DRAIN_ENABLE (R254, R264): draining begins at the tail; a base outside the host windows is refused.
DRAIN_SEND (R254): the drain pointer moves on by one. -/
def Obligations.LogControl : Prop :=
  (∀ (s : State) (t0 : Nat), s.blk.evl.timerAt = some t0 →
    ∃ t, exec .checkpointTimer s = .next t ∧ t.blk.elapsed = max s.blk.elapsed t0 ∧ t.blk.evl.timerAt = some (t0 + secUnits) ∧
      (s.blk.evlFull = false → t.blk.evl.due = some (s.blk.evl.due.getD ckTIMER)) ∧
      (s.blk.evlFull = true → t.blk.evl.due = s.blk.evl.due) ∧ s.unitsOnly [.cnt, .time, .evl] t) ∧
  (∀ s : State, ∃ t, exec .checkpointRequest s = .next t ∧
      (∀ t0, s.blk.evl.lastCkpt = some t0 → s.blk.elapsed < t0 + 2560000000 → t.blk.evl = { s.blk.evl with ckptHeld := true }) ∧
      ((∀ t0, s.blk.evl.lastCkpt = some t0 → t0 + 2560000000 ≤ s.blk.elapsed) →
        t.blk.evl = { s.blk.evl with due := some (s.blk.evl.due.getD ckHOST) }) ∧ s.unitsOnly [.evl] t) ∧
  (∀ (s : State) (t0 : Nat), s.blk.evl.ckptHeld = true → s.blk.evl.lastCkpt = some t0 →
    ∃ t, exec .checkpointHoldExpiry s = .next t ∧ t.blk.elapsed = max s.blk.elapsed (t0 + 2560000000) ∧
      t.blk.evl = { s.blk.evl with due := some (s.blk.evl.due.getD ckHOST), ckptHeld := false } ∧ s.unitsOnly [.cnt, .time, .evl] t) ∧
  (∀ s : State, s.blk.on pgEVL EVL_POLICY_LOCK = false → s.blk.logEnabled = true →
    ∃ t, exec .logDisable s = .next t ∧ t.blk.logEnabled = false ∧ t.blk.evl = { s.blk.evl with disabling := true } ∧
      t.blk.evRaw (srcEVL 1) = true ∧ Block.onlyPages [pgEVL] s.blk t.blk ∧ s.unitsOnly [.regs, .events, .evl] t) ∧
  (∀ s : State, s.blk.on pgEVL EVL_POLICY_LOCK = false → s.blk.logEnabled = false →
    ∃ t, exec .logEnable s = .next t ∧ t.blk.logEnabled = true ∧ t.blk.logActive = true ∧ t.blk.evl.disabling = false ∧
      t.blk.evl.gap.map (fun g => g.reason) = some gapENABLED ∧ t.blk.evRaw (srcEVL 1) = true ∧
      Block.onlyPages [pgEVL] s.blk t.blk ∧ s.unitsOnly [.regs, .events, .evl] t) ∧
  (∀ s : State, s.blk.on pgEVL EVL_POLICY_LOCK = true →
    ∃ t, exec .logDisable s = .next t ∧ exec .logEnable s = .next t ∧ t.blk.logEnabled = s.blk.logEnabled ∧
      t.blk.on pgEVL EVL_STATUS_WR_REFUSED = true ∧ Block.onlyWords [(pgEVL, 0x040), (pgEVL, 0x018)] s.blk t.blk ∧
      s.unitsOnly [.regs, .events] t) ∧
  (∀ (s : State) (v : Word), bit v.toNat 0 = true → ∃ t, exec (.drainEnable v) s = .next t ∧
      (inHostWindows (s.blk.g64 pgEVL EVL_DRAIN_BASE % 2 ^ 48) = true → t.blk.on pgEVL EVL_DRAIN_EN = true ∧
        (s.blk.on pgEVL EVL_DRAIN_EN = false → t.blk.rd pgEVL 0x054 = s.blk.rd pgEVL 0x04C)) ∧
      (inHostWindows (s.blk.g64 pgEVL EVL_DRAIN_BASE % 2 ^ 48) = false → t.blk.on pgEVL EVL_DRAIN_EN = false ∧
        t.blk.on pgEVL EVL_STATUS_WR_REFUSED = true) ∧
      Block.onlyPages [pgEVL] s.blk t.blk ∧ s.unitsOnly [.regs, .events] t) ∧
  (∀ (s : State) (v : Word), bit v.toNat 0 = false → ∃ t, exec (.drainEnable v) s = .next t ∧ t.blk.on pgEVL EVL_DRAIN_EN = false ∧
      Block.onlyPages [pgEVL] s.blk t.blk ∧ s.unitsOnly [.regs] t) ∧
  (∀ s : State, s.blk.drainReady = true → ∃ t, exec .drainSend s = .next t ∧
      t.blk.rd pgEVL 0x054 = BitVec.ofNat 32 (s.blk.g pgEVL EVL_DRAIN_PTR_P + 1) ∧ t.pending = s.pending ∧
      Block.onlyParts [.regs, .cnt, .events, .nis, .mm, .pm, .free] s.blk t.blk)


/-- R255, word for word: a write of V to EVL_TAIL is taken only if (V − TAIL) mod 2³² ≤ (HEAD − TAIL) mod 2³²; if V passes the drain
pointer, the pointer takes V; any other value is ignored and sets WR_REFUSED. -/
def Obligations.TailRelease : Prop :=
  ∀ (s : State) (v : Word) (d head ptr : Nat), d = (v.toNat + 2 ^ 32 - s.blk.g pgEVL EVL_TAIL_P) % 2 ^ 32 →
    head = (s.blk.g pgEVL EVL_HEAD_P + 2 ^ 32 - s.blk.g pgEVL EVL_TAIL_P) % 2 ^ 32 →
    ptr = (s.blk.g pgEVL EVL_DRAIN_PTR_P + 2 ^ 32 - s.blk.g pgEVL EVL_TAIL_P) % 2 ^ 32 →
    ∃ t, exec (.tailRelease v) s = .next t ∧
      (d ≤ head → t.blk.g pgEVL EVL_TAIL_P = v.toNat ∧ t.blk.on pgEVL EVL_STATUS_WR_REFUSED = s.blk.on pgEVL EVL_STATUS_WR_REFUSED ∧
        (ptr < d → t.blk.g pgEVL EVL_DRAIN_PTR_P = v.toNat) ∧
        (d ≤ ptr → t.blk.g pgEVL EVL_DRAIN_PTR_P = s.blk.g pgEVL EVL_DRAIN_PTR_P) ∧
        Block.onlyWords [(pgEVL, 0x04C), (pgEVL, 0x054)] s.blk t.blk ∧ t.blk.events = s.blk.events) ∧
      (head < d → t.blk.g pgEVL EVL_TAIL_P = s.blk.g pgEVL EVL_TAIL_P ∧ t.blk.on pgEVL EVL_STATUS_WR_REFUSED = true ∧
        Block.onlyWords [(pgEVL, 0x040), (pgEVL, 0x018)] s.blk t.blk) ∧
      s.unitsOnly [.regs, .events] t

/-! ### The gate manager (10 R306-R328) -/

/-- MG_MAP_DISTRIBUTE, MG_MAP_ACTIVATE (R307): the shadow map goes out, unless one is on its way, and is live from a frame boundary on.
WINDOW_READ, WINDOW_WRITE, WINDOW_OP_COMPLETE (R318, R327): an operation on a reachable node is held and runs, a write of a set in
use is refused; a write stores the data words in the window, a read shows the window in them. SWAP_SCHEDULE, SWAP_CANCEL (R320; 12 R375):
every NI holds the instant of the swap, or none; with a swap pending, a slot not IDLE or in the safe state it is refused. -/
def Obligations.GateManager : Prop :=
  (∀ s : State, ∃ t, exec .mgMapDistribute s = .next t ∧
      t.blk.g pgGT PG_COMMIT_COUNT = (s.blk.g pgGT PG_COMMIT_COUNT + 1) % 2 ^ 16 ∧ t.blk.on pgGT GT_STATUS_MAP_PEND = true ∧
      (s.blk.on pgGT GT_STATUS_MAP_PEND = true → t.blk.on pgGT GT_STATUS_WR_REFUSED = true ∧ t.blk.gt = s.blk.gt) ∧
      (s.blk.on pgGT GT_STATUS_MAP_PEND = false → ∃ m, t.blk.gt = { s.blk.gt with next := some m } ∧
        ∀ j, j < 27 → AMap.get (resetWord pgGT (0x080 + 4 * j)) m (0x080 + 4 * j) = s.blk.rd pgGT (0x080 + 4 * j)) ∧
      Block.onlyWords [(pgGT, 0x020), (pgGT, 0x040)] s.blk t.blk ∧ s.unitsOnly [.regs, .gt] t) ∧
  (∀ (s : State) (m : AMap Word), s.blk.gt.next = some m → ∃ t, exec .mgMapActivate s = .next t ∧
      (∀ j, j < 27 → t.blk.rdLive pgGT (0x080 + 4 * j) = AMap.get (resetWord pgGT (0x080 + 4 * j)) m (0x080 + 4 * j)) ∧
      t.blk.on pgGT GT_STATUS_MAP_PEND = false ∧ t.blk.gt = { s.blk.gt with next := none } ∧
      t.blk.now = max s.blk.now (frameBoundaryAfter s.blk.nowNs * 256) ∧
      Block.onlyWords [(pgGT, 0x040)] s.blk t.blk ∧ s.unitsOnly [.regs, .live, .cnt, .time, .gt] t) ∧
  (∀ (s : State) (v : Word), s.blk.windowReach (bitsOf v.toNat 0 7) = true → s.blk.on pgGT GT_WIN_SEL_BUSY = false →
    ∃ t, exec (.windowRead v) s = .next t ∧ t.blk.on pgGT GT_WIN_SEL_BUSY = true ∧
      t.blk.gt = { s.blk.gt with op := some (false, bitsOf v.toNat 0 7, bitsOf v.toNat 10 1, bitsOf v.toNat 7 3) } ∧
      Block.onlyWords [(pgGT, 0x050)] s.blk t.blk ∧ s.unitsOnly [.regs, .gt] t) ∧
  (∀ (s : State) (v : Word) (src : Nat), s.blk.windowReach (bitsOf v.toNat 0 7) = true → s.blk.on pgGT GT_WIN_SEL_BUSY = false →
    ∃ t, exec (.windowWrite v src) s = .next t ∧
      (s.blk.setInUse (bitsOf v.toNat 0 7) (bitsOf v.toNat 10 1) = false → t.blk.on pgGT GT_WIN_SEL_BUSY = true ∧
        t.blk.gt = { s.blk.gt with op := some (true, bitsOf v.toNat 0 7, bitsOf v.toNat 10 1, bitsOf v.toNat 7 3) }) ∧
      (s.blk.setInUse (bitsOf v.toNat 0 7) (bitsOf v.toNat 10 1) = true → t.blk.on pgGT GT_WIN_SEL_ERR = true ∧
        t.blk.on pgGT GT_WIN_SEL_BUSY = false ∧ t.blk.gt = s.blk.gt) ∧
      Block.onlyWords [(pgGT, 0x050), (pgGT, 0x018)] s.blk t.blk ∧ s.unitsOnly [.regs, .events, .gt] t) ∧
  (∀ (s : State) (write : Bool) (n set k : Nat), s.blk.gt.op = some (write, n, set, k) → s.blk.windowReach n = true →
    ∃ t, exec .windowOpComplete s = .next t ∧ t.blk.on pgGT GT_WIN_SEL_BUSY = false ∧ t.blk.gt = { s.blk.gt with op := none } ∧
      (write = true → t.blk.window n set k = s.blk.winData) ∧
      (write = false → t.blk.winData = s.blk.window n set k ∧ t.blk.nodes = s.blk.nodes) ∧
      Block.onlyWords [(pgGT, 0x050), (pgGT, 0x054), (pgGT, 0x058), (pgGT, 0x05C)] s.blk t.blk ∧
      s.unitsOnly [.regs, .nodes, .gt] t) ∧
  (∀ (s : State) (at' : Nat), at' = nsOfStamp (s.blk.g64 pgGT GT_SWAP_T) * 256 → s.blk.safe = false →
    s.blk.on pgGT GT_STATUS_SWAP_PEND = false →
    s.blk.allSlotsIdle = true → s.blk.now + 25600000 ≤ at' → at' ≤ s.blk.now + 256000000000 →
    ∃ t, exec .swapSchedule s = .next t ∧ t.blk.on pgGT GT_STATUS_SWAP_PEND = true ∧
      (∀ i, i < 216 → t.blk.ni i = { s.blk.ni i with swapAt := some at' }) ∧
      Block.onlyWords [(pgGT, 0x040)] s.blk t.blk ∧ s.unitsOnly [.regs, .nis] t) ∧
  (∀ s : State, s.blk.safe = true ∨ s.blk.on pgGT GT_STATUS_SWAP_PEND = true ∨ s.blk.allSlotsIdle = false →
    ∃ t, exec .swapSchedule s = .next t ∧ t.blk.on pgGT GT_STATUS_WR_REFUSED = true ∧
      Block.onlyWords [(pgGT, 0x040)] s.blk t.blk ∧ s.unitsOnly [.regs] t) ∧
  (∀ s : State, s.blk.on pgGT GT_STATUS_SWAP_PEND = true →
    ∃ t, exec .swapCancel s = .next t ∧ t.blk.on pgGT GT_STATUS_SWAP_PEND = false ∧
      t.blk.on pgGT GT_STATUS_SWAP_CANCELLED = true ∧ (∀ i, i < 216 → t.blk.ni i = { s.blk.ni i with swapAt := none }) ∧
      Block.onlyWords [(pgGT, 0x040), (pgGT, 0x018)] s.blk t.blk ∧ s.unitsOnly [.regs, .events, .nis] t)

/-! ### The memory manager (11 R337-R355) -/

/-- SCRUB_READ (R337, R356): an interval after its last read the engine reads on, and its position moves. CORRECTION_WRITE_BACK (R340): the word's cells hold what its data say.
BANK_WIPE, BANK_WIPE_COMPLETE (R350): the bank reads zero throughout. REPEAT_CLEAR (R355): the repeat list is empty. -/
def Obligations.MemoryUnit : Prop :=
  (∀ (s : State) (r : Nat) (errs : List Nat), r < 12 → s.blk.regionOn r = true → s.blk.g pgMM (MM_SCRUB_RATE_INTERVAL r) ≠ 0 →
    ∃ t, exec (.scrubRead r errs) s = .next t ∧
      t.blk.g pgMM (MM_SCRUB_POS_WORD r) = (if s.blk.g pgMM (MM_SCRUB_POS_WORD r) + 1 < regionSize r / 16 then
        s.blk.g pgMM (MM_SCRUB_POS_WORD r) + 1 else 0) ∧
      t.blk.elapsed = max s.blk.elapsed (AMap.get 0 s.blk.mm.scrubAt r + s.blk.scrubEvery r) ∧
      AMap.get 0 t.blk.mm.scrubAt r = t.blk.elapsed ∧
      t.pending = s.pending ∧ Block.onlyParts [.regs, .cnt, .events, .time, .mm, .free] s.blk t.blk) ∧
  (∀ (s : State) (a : Nat), s.blk.mm.backs.contains a = true →
    ∃ t, exec (.correctionWriteBack a) s = .next t ∧ (t.mem.flagsAt (a / 16)).flips = [] ∧ t.blk.mm.backs.contains a = false ∧
      (∀ x, t.mem.byteAt x = s.mem.byteAt x) ∧ (∀ w, w ≠ a / 16 → t.mem.flagsAt w = s.mem.flagsAt w) ∧
      t.pending = s.pending ∧ Block.onlyParts [.mm] s.blk t.blk) ∧
  (∀ (s : State) (v : Word), bit v.toNat 8 = true → ∃ t, exec (.bankWipe v) s = .next t ∧
      (bitsOf v.toNat 0 5 < 8 → s.blk.streamsOf (bitsOf v.toNat 0 5) = [] →
        s.blk.on (pgFs (bitsOf v.toNat 0 5)) FS_STATUS_SEAL_BUSY = false → s.blk.frondInUse (bitsOf v.toNat 0 5) = false →
        t.blk.on pgMM MM_WIPE_BUSY = true ∧ t.blk.mm = { s.blk.mm with wiping := s.blk.mm.wiping ++ [bitsOf v.toNat 0 5] }) ∧
      (8 ≤ bitsOf v.toNat 0 5 ∨ s.blk.streamsOf (bitsOf v.toNat 0 5) ≠ [] ∨
          s.blk.on (pgFs (bitsOf v.toNat 0 5)) FS_STATUS_SEAL_BUSY = true ∨ s.blk.frondInUse (bitsOf v.toNat 0 5) = true → t.blk.on pgMM MM_WIPE_REFUSED = true ∧
        t.blk.mm = s.blk.mm) ∧
      Block.onlyWords [(pgMM, 0x044)] s.blk t.blk ∧ s.unitsOnly [.regs, .mm] t) ∧
  (∀ (s : State) (k : Nat) (rest : List Nat), k < 8 → s.blk.mm.wiping = k :: rest →
    ∃ t, exec .bankWipeComplete s = .next t ∧ (∀ off, off < 0x800000 → t.mem.byteAt (bankAddr k off) = 0) ∧
      (∀ x, x < bankAddr k 0 ∨ bankAddr k 0x800000 ≤ x → t.mem.byteAt x = s.mem.byteAt x) ∧
      t.blk.on pgMM MM_WIPE_BUSY = !rest.isEmpty ∧ t.blk.mm.wiping = rest ∧ t.pending = s.pending ∧
      Block.onlyPages [pgMM] s.blk t.blk ∧ Block.onlyParts [.regs, .mm] s.blk t.blk) ∧
  (∀ s : State, ∃ t, exec .repeatClear s = .next t ∧ t.blk.mm = { s.blk.mm with repeats := [] } ∧ s.unitsOnly [.mm] t)

/-! ### Fault collection (12 R359-R381) -/

/-- EVENT_RECEIVE (R360-R366): an event that NI 208 has in a packet, or that its origin brings directly, is counted at L0; a fault of a class that
is not pending makes the class pending at its level and starts its timer. ACK_TIMER_EXPIRY (R367): the class rises. -/
def Obligations.FaultArrivals : Prop :=
  (∀ (s : State) (src c : Nat) (p : Packet) (rest : List Packet), src < 1024 → c < 16 →
    takeFirst (fun q => q.brings src c) (s.blk.ni 208).rx = some (p, rest) → (eventOf (p.bytes 16)).lvl = 0 →
    s.blk.g pgFC (FC_CLASS_CFG_FLOOR c) = 0 →
    ∃ t, exec (.eventReceive src c) s = .next t ∧ (t.blk.ni 208).rx = rest ∧
      t.blk.g pgFC (FC_COUNT c) =
        satAdd (FC_COUNT c).w (s.blk.g pgFC (FC_COUNT c)) (1 + (eventOf (p.bytes 16)).merged) ∧
      (∀ d, d < 16 → t.blk.fcPend d = s.blk.fcPend d ∧ t.blk.fcLevel d = s.blk.fcLevel d) ∧
      Block.onlyPages [pgFC] s.blk t.blk ∧ s.unitsOnly [.regs, .nis] t) ∧
  (∀ (s : State) (src c : Nat) (e : Event) (rest : List Event), src < 1024 → c < 16 →
    takeFirst (fun q => q.brings src c) (s.blk.ni 208).rx = none → s.blk.byPacket src = false →
    takeFirst (fun x => x.src == src && x.cls == c) s.blk.events = some (e, rest) → e.lvl = 0 →
    s.blk.g pgFC (FC_CLASS_CFG_FLOOR c) = 0 →
    ∃ t, exec (.eventReceive src c) s = .next t ∧ t.blk.events = rest ∧
      t.blk.g pgFC (FC_COUNT c) = satAdd (FC_COUNT c).w (s.blk.g pgFC (FC_COUNT c)) (1 + e.merged) ∧
      (∀ d, d < 16 → t.blk.fcPend d = s.blk.fcPend d ∧ t.blk.fcLevel d = s.blk.fcLevel d) ∧
      Block.onlyPages [pgFC] s.blk t.blk ∧ s.unitsOnly [.regs, .events] t) ∧
  (∀ (s : State) (src c lvl : Nat) (e : Event), src < 1024 → c < 16 → e.lvl < 4 → e.merged = 0 →
    (∃ p rest, takeFirst (fun q => q.brings src c) (s.blk.ni 208).rx = some (p, rest) ∧ e = eventOf (p.bytes 16)) ∨
      (takeFirst (fun q => q.brings src c) (s.blk.ni 208).rx = none ∧ s.blk.byPacket src = false ∧
        ∃ rest, takeFirst (fun x => x.src == src && x.cls == c) s.blk.events = some (e, rest)) →
    lvl = max e.lvl (s.blk.g pgFC (FC_CLASS_CFG_FLOOR c)) → 1 ≤ lvl → s.blk.fcPend c = false →
    ∃ t, exec (.eventReceive src c) s = .next t ∧ t.blk.fcPend c = true ∧ t.blk.fcAcked c = false ∧ t.blk.fcLevel c = lvl ∧
      t.blk.fcLast c = some e ∧
      t.blk.fcTimer c = (if lvl < 3 then some (s.blk.elapsed + s.blk.ackTime c) else none) ∧ t.pending = s.pending) ∧
  (∀ (s : State) (c t0 : Nat), c < 16 → s.blk.fcTimer c = some t0 → s.blk.fcLevel c < s.blk.escalated c (s.blk.fcLevel c) →
    ∃ t, exec (.ackTimerExpiry c) s = .next t ∧ t.blk.fcLevel c = s.blk.escalated c (s.blk.fcLevel c) ∧
      t.blk.elapsed = max s.blk.elapsed t0 ∧ t.pending = s.pending)

/-- FAULT_ACK, FAULT_CLEAR (R368, R369): the classes named that are pending are acknowledged, cleared. SAFE_EXIT (R376): with the
key, the SEQ and nothing pending MG0 leaves the safe state, and nobody else. HELD_EVENTS_SEND (R379): nothing is held any more. COLLECTOR_MISMATCH (R380):
the event, and with no good copy every pending class is at L3. -/
def Obligations.FaultControl : Prop :=
  (∀ (s : State) (v : Word), ∃ t, exec (.faultAck v) s = .next t ∧
      (∀ c, c < 16 → bit v.toNat c = true → s.blk.fcPend c = true → t.blk.fcAcked c = true ∧ t.blk.fcTimer c = none) ∧
      (∀ c, c < 16 → bit v.toNat c = false ∨ s.blk.fcPend c = false →
        t.blk.fcAcked c = s.blk.fcAcked c ∧ t.blk.fcTimer c = s.blk.fcTimer c) ∧
      Block.onlyPages [pgFC] s.blk t.blk ∧ s.unitsOnly [.regs, .fc] t) ∧
  (∀ (s : State) (v : Word), ∃ t, exec (.faultClear v) s = .next t ∧
      (∀ c, c < 16 → bit v.toNat c = true → s.blk.fcPend c = true →
        t.blk.fcPend c = false ∧ t.blk.fcLevel c = 0 ∧ t.blk.fcTimer c = none ∧ t.blk.fcLast c = none) ∧
      (∀ c, c < 16 → bit v.toNat c = false ∨ s.blk.fcPend c = false →
        t.blk.fcPend c = s.blk.fcPend c ∧ t.blk.fcLevel c = s.blk.fcLevel c ∧ t.blk.fcTimer c = s.blk.fcTimer c) ∧
      Block.onlyPages [pgFC] s.blk t.blk ∧ s.unitsOnly [.regs, .fc] t) ∧
  (∀ (s : State) (v : Word), s.blk.safe = true → s.blk.g pgFC FC_PEND_PEND = 0 → s.blk.on pgFC FC_STATUS_COLLECT_ERR = false →
    bitsOf v.toNat 16 16 = 0xE71D → bitsOf v.toNat 0 8 = s.blk.g pgFC FC_STATUS_SAFE_SEQ →
    ∃ t, exec (.safeExit v 0) s = .next t ∧ t.blk.safe = false ∧
      t.blk.evl.queue = insertRec { typ := tySAFE, body := safeBody 2 0 0 0, ready := s.blk.elapsed } s.blk.evl.queue ∧
      Block.onlyPages [pgFC] s.blk t.blk ∧ s.unitsOnly [.regs, .evl] t) ∧
  (∀ (s : State) (v : Word) (mg : Nat), mg ≠ 0 ∨ s.blk.safe = false ∨ s.blk.g pgFC FC_PEND_PEND ≠ 0 ∨
      s.blk.on pgFC FC_STATUS_COLLECT_ERR = true ∨ bitsOf v.toNat 16 16 ≠ 0xE71D ∨
      bitsOf v.toNat 0 8 ≠ s.blk.g pgFC FC_STATUS_SAFE_SEQ →
    ∃ t, exec (.safeExit v mg) s = .next t ∧ t.blk.on pgFC FC_STATUS_EXIT_REFUSED = true ∧ t.blk.safe = s.blk.safe ∧
      Block.onlyPages [pgFC] s.blk t.blk ∧ s.unitsOnly [.regs] t) ∧
  (∀ s : State, s.blk.on pgFC FC_STATUS_HELD = true → s.blk.eventHosts ≠ [] →
    ∃ t, exec .heldEventsSend s = .next t ∧ t.blk.on pgFC FC_STATUS_HELD = false ∧ t.blk.fc = { s.blk.fc with heldEv := [] } ∧
      t.mem = s.mem ∧ t.pending = s.pending) ∧
  (∀ (s : State) (parity good : Bool), ∃ t, exec (.collectorMismatch parity good) s = .next t ∧
      t.blk.evRaw (srcFC (b2n parity)) = true ∧ (good = true → s.unitsOnly [.regs, .events] t) ∧
      (good = false → ∀ c, c < 16 → s.blk.fcPend c = true → t.blk.fcLevel c = 3) ∧ t.pending = s.pending)

/-! ### Ageing (14 R436-R446) -/

/-- LANE_SPARE, LANE_SPARE_SWITCH_RX (R437, R438): the sender's map names the wire on its lowest free spare, and 1 µs on the
receiver's. LANE_WATCH_RESET (R436): every watch counts from 0 at the whole second. MARGIN_TRIM (R440, R441): at the node's next
frame boundary the measurement is shown, and a path that is short of slack grows by a step. -/
def Obligations.Ageing : Prop :=
  (∀ (s : State) (n q w m sp : Nat) (x : LaneReq), n < 112 → q < 4 → w < 144 → neighbour n q = some m →
    s.blk.stw.lanes.find? (fun y => y.n == n && y.q == q && y.w == w && y.sent.isNone) = some x →
    s.blk.pageUp (pgNode n) = true → s.blk.pageUp (pgNode m) = true →
    (List.range 4).find? (fun j => decide (144 ≤ s.blk.g (pgNode m) (NODE_LANE_MAP (opposite q) j))) = some sp →
    ∃ t, exec (.laneSpare n q w) s = .next t ∧ t.blk.g (pgNode m) (NODE_LANE_MAP (opposite q) sp) = w ∧
      { x with sent := some (sp, s.blk.elapsed + 256000) } ∈ t.blk.stw.lanes ∧
      Block.onlyPages [pgNode m] s.blk t.blk ∧ s.unitsOnly [.regs, .live, .events, .nodes, .stw] t) ∧
  (∀ (s : State) (n q m sp t0 : Nat) (x : LaneReq), n < 112 → q < 4 → neighbour n q = some m → sp < 4 →
    s.blk.stw.lanes.find? (fun y => y.n == n && y.q == q && y.sent.isSome) = some x → x.sent = some (sp, t0) → x.w < 144 →
    s.blk.pageUp (pgNode n) = true →
    ∃ t, exec (.laneSpareSwitchRx n q) s = .next t ∧ t.blk.g (pgNode n) (NODE_LANE_MAP (4 + q) sp) = x.w ∧
      t.blk.elapsed = max s.blk.elapsed t0 ∧ t.pending = s.pending ∧
      Block.onlyParts [.regs, .live, .cnt, .events, .time, .nodes, .mm, .stw, .free] s.blk t.blk) ∧
  (∀ s : State, ∃ t, exec .laneWatchReset s = .next t ∧ t.blk.now = (s.blk.now / secUnits + 1) * secUnits ∧
      (∀ n q, n < 112 → q < 4 → s.blk.pageUp (pgNode n) = true → neighbour n q ≠ none →
        t.blk.g (pgNode n) (NODE_LANE_WATCH_COUNT q) = 0) ∧ s.unitsOnly [.regs, .cnt, .time] t) ∧
  (∀ (s : State) (n k slack cycle : Nat), n < 112 → hasPath n k = true → s.blk.pageUp (pgNode n) = true →
    ∃ t, exec (.marginTrim n k slack cycle) s = .next t ∧ t.blk.cellNow n = (s.blk.cellNow n / 262144 + 1) * 262144 ∧
      t.blk.g (pgNode n) (NODE_MARGIN_PORT_SLACK (pathReg k)) = min 63 slack ∧
      t.blk.g (pgNode n) (NODE_MARGIN_PORT_CYCLE (pathReg k)) = min 4095 cycle ∧
      (min 63 slack < max 1 (s.blk.g (pgNode n) NODE_MARGIN_CFG_SLACK_MIN) →
        (s.blk.g (pgNode n) (NODE_MARGIN_PORT_TRIM (pathReg k)) < 63 → t.blk.g (pgNode n) (NODE_MARGIN_PORT_TRIM (pathReg k)) =
          s.blk.g (pgNode n) (NODE_MARGIN_PORT_TRIM (pathReg k)) + 1) ∧
        (s.blk.g (pgNode n) (NODE_MARGIN_PORT_TRIM (pathReg k)) = 63 →
          t.blk.on (pgNode n) (NODE_MARGIN_PORT_EXHAUSTED (pathReg k)) = true)) ∧
      (max 1 (s.blk.g (pgNode n) NODE_MARGIN_CFG_SLACK_MIN) ≤ min 63 slack →
        t.blk.g (pgNode n) (NODE_MARGIN_PORT_TRIM (pathReg k)) = s.blk.g (pgNode n) (NODE_MARGIN_PORT_TRIM (pathReg k)) ∧
        t.blk.events = s.blk.events) ∧
      Block.onlyWords [(pgNode n, 0x140 + 4 * pathReg k), (pgNode n, 0x018)] s.blk t.blk ∧
      s.unitsOnly [.regs, .cnt, .events, .time, .stw] t)

/-! ### Observation (15 R457-R464) -/

/-- COUNTER_SNAPSHOT (R457, R459): at one instant every counter of a page that is ON is copied to its snapshot word, and a page that is
not ON keeps its snapshot. DUMP_COMPLETE (R460): the dump is over, and a failed one leaves its event. DUMP_ONE_SHOT (R457): the
instant asked for is the first multiple of 16,384 ns that is 100 µs or more ahead. PERIOD_DISTRIBUTE, PERIOD_ACTIVATE (R457): a
period is held while it is distributed, and in force from a whole second on. SAMPLE_CLEAR (R464): the NI holds no sample. -/
def Obligations.Observation : Prop :=
  (∀ (s : State) (x : Nat), s.blk.nextSnapshot = some x →
    ∃ t, exec .counterSnapshot s = .next t ∧ t.blk.now = max s.blk.now x ∧
      (∀ p j, p < 0x600 → j < (if p < 0x500 then 58 else 48) → s.blk.pageOn p = true →
        t.blk.counter p (0x440 + 8 * j) = (s.blk.untilTime x).counter p (0x040 + 8 * j)) ∧
      (∀ p j, p < 0x600 → j < 58 → s.blk.pageOn p = false →
        t.blk.counter p (0x440 + 8 * j) = (s.blk.untilTime x).counter p (0x440 + 8 * j)) ∧
      t.mem = s.mem ∧ t.pending = s.pending) ∧
  (∀ (s : State) (d : Dump), s.blk.pr.dump = some d → d.failed = true ∨ (d.todo = [] ∧ (s.blk.ni 211).txns = [] ∧ AMap.get [] (s.blk.ni 211).waitq cMGT = []) →
    ∃ t, exec .dumpComplete s = .next t ∧ t.blk.on pgPR PR_STATUS_BUSY = false ∧ t.blk.pr.dump = none ∧
      (d.failed = true → t.blk.evRaw srcPR = true) ∧ t.mem = s.mem ∧ t.pending = s.pending) ∧
  (∀ s : State, s.blk.prOn = true → ∃ t x, exec .dumpOneShot s = .next t ∧ t.blk.pr = { s.blk.pr with shotAt := some x } ∧
      x % 4194304 = 0 ∧ s.blk.now + 25600000 ≤ x ∧ x < s.blk.now + 25600000 + 4194304 ∧ s.unitsOnly [.pr] t) ∧
  (∀ (s : State) (v : Word), s.blk.prOn = true → ∃ t, exec (.periodDistribute v) s = .next t ∧
      t.blk.g pgPR PR_DUMP_PERIOD_PERIOD = bitsOf v.toNat 0 22 ∧ t.blk.on pgPR PR_STATUS_PEND = true ∧
      t.blk.pr = { s.blk.pr with newPeriod := some (bitsOf v.toNat 0 22) } ∧ Block.onlyPages [pgPR] s.blk t.blk ∧
      s.unitsOnly [.regs, .pr] t) ∧
  (∀ (s : State) (p : Nat), s.blk.pr.newPeriod = some p → ∃ t, exec .periodActivate s = .next t ∧
      t.blk.pr = { s.blk.pr with period := p, newPeriod := none } ∧ t.blk.on pgPR PR_STATUS_PEND = false ∧
      t.blk.now = (s.blk.now / secUnits + 1) * secUnits ∧ Block.onlyWords [(pgPR, 0x040)] s.blk t.blk ∧
      s.unitsOnly [.regs, .cnt, .time, .pr] t) ∧
  (∀ (s : State) (i : Nat), i < 216 → s.blk.niUp i = true → ∃ t, exec (.sampleClear i) s = .next t ∧
      t.blk.ni i = { s.blk.ni i with samples := [], sampleN := 0 } ∧ t.blk.g (pgNi i) NI_SAMPLE_STAT_NEXT = 0 ∧
      t.blk.g (pgNi i) NI_SAMPLE_STAT_STORED = 0 ∧ (∀ j, j ≠ i → t.blk.ni j = s.blk.ni j) ∧
      Block.onlyPages [pgNi i] s.blk t.blk ∧ s.unitsOnly [.regs, .nis] t)

/-! ### The mailbox (16 R475-R496) -/

/-- While a command runs, a command written is refused (R491); from a group other than MG0 and MG15, and in the safe state for a
command that it bars, a command ends at once with its result (R492, R493). MBOX_UNKNOWN ends with UNKNOWN. -/
def Obligations.MailboxRefusals : Prop :=
  (∀ (s : State) (v : Word) (mg : Nat) (c : Instr), (s.blk.dom domSD).up = true → s.blk.stw.mbox.isSome = true →
    (bitsOf v.toNat 0 8 = 1 ∧ c = .resync v mg) ∨ (bitsOf v.toNat 0 8 = 3 ∧ c = .cfgErase v mg) ∨
      (bitsOf v.toNat 0 8 = 4 ∧ c = .epochRebuild v mg) ∨ (bitsOf v.toNat 0 8 = 5 ∧ c = .isolate v mg) ∨
      (bitsOf v.toNat 0 8 = 7 ∧ c = .recordsRead v mg) ∨ (bitsOf v.toNat 0 8 = 9 ∧ c = .noiseRead v mg) →
    ∃ t, exec c s = .next t ∧ t.blk.on pgSTW STW_MBOX_STATUS_WR_REFUSED = true ∧
      Block.onlyWords [(pgSTW, 0x048)] s.blk t.blk ∧ s.unitsOnly [.regs] t) ∧
  (∀ (s : State) (v : Word) (mg : Nat) (c : Instr) (ok : Bool) (noise : List (BitVec 2048)), (s.blk.dom domSD).up = true →
    s.blk.stwServes = true → s.blk.stw.mbox = none → s.blk.safe = true → bit v.toNat 8 = false →
    (bitsOf v.toNat 0 8 = 4 ∧ c = .epochRebuild v mg) ∨ (bitsOf v.toNat 0 8 = 6 ∧ c = .returnObject v mg ok) ∨
      (bitsOf v.toNat 0 8 = 8 ∧ c = .lcPrepare v mg noise) →
    ∃ t, exec c s = .next t ∧ t.blk.g pgSTW STW_MBOX_STATUS_RESULT = (if mg = 0 then mbSAFE else mbGROUP) ∧
      t.blk.on pgSTW STW_MBOX_STATUS_BUSY = false ∧ t.blk.stw.queue = s.blk.stw.queue ∧
      Block.onlyWords [(pgSTW, 0x048)] s.blk t.blk ∧ s.unitsOnly [.regs, .stw] t) ∧
  (∀ (s : State) (v : Word), (s.blk.dom domSD).up = true → s.blk.stwServes = true → s.blk.stw.mbox = none → bit v.toNat 8 = false →
    bitsOf v.toNat 0 8 = 0 ∨ 9 < bitsOf v.toNat 0 8 →
    ∃ t, exec (.mboxUnknown v 0) s = .next t ∧ t.blk.g pgSTW STW_MBOX_STATUS_RESULT = mbUNKNOWN ∧
      t.blk.g pgSTW STW_MBOX_STATUS_CMD = bitsOf v.toNat 0 8 ∧ t.blk.on pgSTW STW_MBOX_STATUS_BUSY = false ∧
      Block.onlyWords [(pgSTW, 0x048)] s.blk t.blk ∧ s.unitsOnly [.regs, .stw] t)

/-- What MG0 may command while the mailbox is open and free, outside the safe state (R493, R495). RESYNC into a host window counts the
generation on and starts the writes. EPOCH_REBUILD asks for an epoch change. ISOLATE isolates its object and asks for one; RETURN
takes the object back and asks for one. RECORDS_READ of the self-test records starts its writes. Each shows BUSY while it runs. -/
def Obligations.MailboxFabric : Prop :=
  ∀ (s : State) (v : Word), (s.blk.dom domSD).up = true → s.blk.stwServes = true → s.blk.stw.mbox = none → s.blk.safe = false →
    (bitsOf v.toNat 0 8 = 1 → hostRange (s.blk.hostAddr 0) 4096 = true → s.blk.hostAddr 0 % 4096 = 0 →
      ∃ t, exec (.resync v 0) s = .next t ∧ t.blk.stw.mbox = some v ∧ t.blk.stw.gen = (s.blk.stw.gen + 1) % 2 ^ 32 ∧
        t.blk.stw.tail ≠ none ∧ t.blk.on pgSTW STW_MBOX_STATUS_BUSY = true ∧ t.mem = s.mem ∧ t.pending = s.pending) ∧
    (bitsOf v.toNat 0 8 = 4 → ∃ t, exec (.epochRebuild v 0) s = .next t ∧ t.blk.stw.mbox = some v ∧
        t.blk.stw.queue = s.blk.stw.queue ++ [.mailbox 4] ∧ t.blk.on pgSTW STW_MBOX_STATUS_BUSY = true ∧
        Block.onlyWords [(pgSTW, 0x048)] s.blk t.blk ∧ s.unitsOnly [.regs, .stw] t) ∧
    (bitsOf v.toNat 0 8 = 5 → objectOk (s.blk.mArg 0) (s.blk.mArg 1) = true → s.blk.isolated (s.blk.mArg 0) (s.blk.mArg 1) = false →
      ∃ t, exec (.isolate v 0) s = .next t ∧ t.blk.isolated (s.blk.mArg 0) (s.blk.mArg 1) = true ∧
        t.blk.stw.queue = s.blk.stw.queue ++ [.mailbox 5] ∧ t.mem = s.mem ∧ t.pending = s.pending) ∧
    (bitsOf v.toNat 0 8 = 6 → objectOk (s.blk.mArg 0) (s.blk.mArg 1) = true → s.blk.stw.waits = false →
      ∃ t, exec (.returnObject v 0 true) s = .next t ∧ t.blk.isolated (s.blk.mArg 0) (s.blk.mArg 1) = false ∧
        t.blk.stw.queue = s.blk.stw.queue ++ [.mailbox 6] ∧ t.mem = s.mem ∧ t.pending = s.pending) ∧
    (bitsOf v.toNat 0 8 = 7 → s.blk.mArg 0 = 0 → hostRange (s.blk.hostAddr 1) 768 = true →
      ∃ t, exec (.recordsRead v 0) s = .next t ∧ t.blk.stw.mbox = some v ∧ t.blk.on pgSTW STW_MBOX_STATUS_BUSY = true ∧
        t.pending = s.pending)

/-- CFG_SAVE of a good image that reads back ends OK, with the next SEQ and the copy written in use; CFG_ERASE with its key ends OK,
and both copies' headers are zero (R475-R478). LC_PREPARE of a permitted change, with every slot IDLE and the log active, makes the
hand-over checkpoint due and takes the next keys, where the target has keys, from the first noise that passes the health tests; noise that fails
three times ends it with KEYGEN (08 R246, R249); LC_PREPARE_DRAINED then records the target as
prepared, and the command ends (R487, R488). NOISE_READ outside LC_BUILD ends with STATE; in LC_BUILD it runs on a free value (R493). -/
def Obligations.MailboxSystem : Prop :=
  (∀ (s : State) (v : Word) (im : List Byte) (len : Nat), (s.blk.dom domSD).up = true → s.blk.stwServes = true →
    s.blk.stw.mbox = none → s.blk.stw.waits = false → s.blk.safe = false → bitsOf v.toNat 0 8 = 2 → len = s.blk.mArg 2 →
    hostRange (s.blk.hostAddr 0) len = true → 32 ≤ len → len ≤ 262144 → len % 8 = 0 → cfgImageOk (sliceBytes im 0 len) len = true →
    ∃ t, exec (.cfgSave v 0 (some im) true) s = .next t ∧ t.blk.g pgSTW STW_MBOX_STATUS_RESULT = mbOK ∧
      t.blk.g pgLG LG_CFG_SEQ_SEQ = s.blk.cfgNext.2 ∧ t.blk.g pgLG LG_CFG_STAT_IN_USE = s.blk.cfgNext.1 ∧ t.pending = s.pending) ∧
  (∀ (s : State) (v : Word), (s.blk.dom domSD).up = true → s.blk.stwServes = true → s.blk.stw.mbox = none → s.blk.safe = false →
    bitsOf v.toNat 0 8 = 3 → s.blk.mArg 0 = 0xE2A5 →
    ∃ t, exec (.cfgErase v 0) s = .next t ∧ t.blk.g pgSTW STW_MBOX_STATUS_RESULT = mbOK ∧
      (∀ c j, c < 2 → j < 32 → t.mem.byteAt (cfgAddr c + j) = 0) ∧ t.pending = s.pending) ∧
  (∀ (s : State) (v : Word) (tg : Nat) (noise : List (BitVec 2048)), (s.blk.dom domSD).up = true → s.blk.stwServes = true →
    s.blk.stw.mbox = none → s.blk.stw.waits = false → s.blk.safe = false → bitsOf v.toNat 0 8 = 8 → tg = s.blk.mArg 0 % 256 →
    s.blk.allSlotsIdle = true → s.blk.lc.target = none → lcChange s.blk.lcState tg = true → s.blk.logActive = true →
    lcKeyed tg = false ∨ keysFrom noise ≠ none →
    ∃ t, exec (.lcPrepare v 0 noise) s = .next t ∧ t.blk.lc = { s.blk.lc with preparing := some tg } ∧
      t.blk.evl.due = some ckHANDOVER ∧ t.blk.evl.nextKeys = (if lcKeyed tg then keysFrom noise else none) ∧
      t.blk.stw.mbox = some v ∧ Block.onlyWords [(pgSTW, 0x048), (pgEVL, 0x040)] s.blk t.blk ∧
      s.unitsOnly [.regs, .evl, .stw, .lc] t) ∧
  (∀ (s : State) (v : Word) (noise : List (BitVec 2048)), (s.blk.dom domSD).up = true → s.blk.stwServes = true →
    s.blk.stw.mbox = none → s.blk.stw.waits = false → s.blk.safe = false → bitsOf v.toNat 0 8 = 8 → bit v.toNat 8 = false →
    s.blk.allSlotsIdle = true → s.blk.lc.target = none → lcChange s.blk.lcState (s.blk.mArg 0 % 256) = true →
    lcKeyed (s.blk.mArg 0 % 256) = true → keysFrom noise = none →
    ∃ t, exec (.lcPrepare v 0 noise) s = .next t ∧ t.blk.g pgSTW STW_MBOX_STATUS_RESULT = mbKEYGEN ∧
      t.blk.g pgEVL EVL_STATUS_KEY_STATE = 3 ∧ t.blk.evRaw (srcEVL 1) = true ∧ t.blk.lc = s.blk.lc ∧
      Block.onlyWords [(pgSTW, 0x048), (pgEVL, 0x040), (pgEVL, 0x018)] s.blk t.blk ∧ s.unitsOnly [.regs, .events, .stw] t) ∧
  (∀ (s : State) (tg : Nat), s.blk.lc.preparing = some tg → tg < 256 → s.blk.lc.handed = true → s.blk.evlHeld = 0 →
    ∃ t, exec .lcPrepareDrained s = .next t ∧ t.blk.lc = { s.blk.lc with target := some tg, preparing := none } ∧
      t.blk.on pgTOP TOP_LC_STATE_PREPARED = true ∧ t.blk.g pgTOP TOP_LC_STATE_TARGET = tg ∧ t.blk.stw.mbox = none ∧
      t.mem = s.mem ∧ t.pending = s.pending) ∧
  (∀ (s : State) (v : Word), (s.blk.dom domSD).up = true → s.blk.stwServes = true → s.blk.stw.mbox = none → s.blk.safe = false →
    bitsOf v.toNat 0 8 = 9 →
    ∃ t, exec (.noiseRead v 0) s = .next t ∧
      (s.blk.lcState ≠ lcBUILD → t.blk.g pgSTW STW_MBOX_STATUS_RESULT = mbSTATE ∧ t.blk.stw.mbox = none) ∧
      (s.blk.lcState = lcBUILD → s.blk.lcInvalid = false → 1024 ≤ s.blk.mArg 2 → s.blk.mArg 2 ≤ 1048576 → s.blk.mArg 2 % 1024 = 0 →
        hostRange (s.blk.hostAddr 0) (s.blk.mArg 2 / 8) = true → t.blk.stw.mbox = some v ∧ t.blk.free = s.blk.free + 1) ∧
      t.mem = s.mem ∧ t.pending = s.pending)

/-! ### The cartridge port (17 R502-R511) -/

/-- CART_INSERT, CART_REMOVE, SIGNATURE_VERIFY_END, ANCHOR_INSTALL (R503, R504, R511): a cartridge whose identity record is bad is
shown as BAD with an event; a good one is present, at once or after the transfer that its change waits for. While PORST_N is low only the pin
changes (19 R542). -/
def Obligations.Cartridge : Prop :=
  (∀ (s : State) (image : List (Nat × Byte)) (im : AMap Byte), s.blk.pins.cart = false → s.blk.pins.porst = true →
    im = (image.filter (fun q => q.1 < 0xC060)).foldl (fun m q => AMap.set 0 m q.1 q.2) [] →
    ∃ t, exec (.cartInsert image) s = .next t ∧ t.blk.pins = { s.blk.pins with cart := true } ∧ t.blk.cp.image = im ∧
      (Cp.good { s.blk.cp with image := im } = false → t.blk.cpState = cpBAD ∧ t.blk.evRaw (srcCP 0) = true) ∧
      (Cp.good { s.blk.cp with image := im } = true → t.blk.cpState = cpPRESENT ∨ (t.blk.cpState = cpREADING ∧ t.blk.cp.changing = true)) ∧
      t.pending = s.pending) ∧
  (∀ (s : State) (image : List (Nat × Byte)) (im : AMap Byte), s.blk.pins.cart = false → s.blk.pins.porst = false →
    im = (image.filter (fun q => q.1 < 0xC060)).foldl (fun m q => AMap.set 0 m q.1 q.2) [] →
    ∃ t, exec (.cartInsert image) s = .next t ∧ t.blk.pins = { s.blk.pins with cart := true } ∧ t.blk.cp = { s.blk.cp with image := im } ∧
      s.unitsOnly [.cp, .pins] t) ∧
  (∀ (s : State) (bad : List Nat), s.blk.pins.cart = true → s.blk.pins.porst = true →
    ∃ t, exec (.cartRemove bad) s = .next t ∧ t.blk.pins = { s.blk.pins with cart := false } ∧ t.blk.cpState = cpABSENT ∧
      t.blk.g pgCP CP_STATUS_SIGNED = 0 ∧ t.blk.on pgCP CP_STATUS_WALK_BUSY = false ∧ t.blk.cp.verifying = false ∧
      t.blk.cp.image = [] ∧ t.blk.elapsed = s.blk.elapsed + 2560000000 ∧ t.pending = s.pending) ∧
  (∀ s : State, s.blk.cp.verifying = true →
    ∃ t, exec .signatureVerifyEnd s = .next t ∧ t.blk.cp.verifying = false ∧
      t.blk.g pgCP CP_STATUS_SIGNED =
        (if s.blk.on pgCP CP_STATUS_ANCHOR_SET && edVerify (Sys.anchor { blk := s.blk, mem := s.mem }) (s.blk.cp.bytes 0 0xC020)
          (s.blk.cp.bytes 0xC020 64) then 1 else 2) ∧
      Block.onlyWords [(pgCP, 0x040), (pgCP, 0x018)] s.blk t.blk ∧ t.mem = s.mem ∧ t.pending = s.pending) ∧
  (∀ (s : State) (mg : Nat), ∃ t, exec (.anchorInstall mg) s = .next t ∧
      (s.blk.anchorOk mg = true → t.blk.on pgCP CP_STATUS_ANCHOR_SET = true) ∧
      (s.blk.anchorOk mg = false → t.blk.on pgCP CP_STATUS_WR_REFUSED = true ∧ t.mem = s.mem ∧
        Block.onlyWords [(pgCP, 0x040)] s.blk t.blk) ∧ t.pending = s.pending)

/-- WEAR_COLLECT, WEAR_TRANSFER (R505): at the whole minute the counters of the domains that are ON are read and cleared, and a
transfer is due; it runs 1 s or more after the last. LIFE_WALK, LIFE_WALK_REQUEST, WALK_COMPLETE (R508): a walk ends with the
worst element. -/
def Obligations.Wear : Prop :=
  (∀ s : State, s.blk.cp.changing = false →
    ∃ t, exec .wearCollect s = .next t ∧ t.blk.now = (s.blk.now / minute + 1) * minute ∧
      (∀ i j, i < 192 → j < 64 → s.blk.domState (domOfNi i) = 0 → t.blk.g64 (pgNi i) (NI_WEAR j) = 0) ∧ t.blk.cp.xferDue = true ∧
      t.pending = s.pending ∧ Block.onlyParts [.regs, .cnt, .events, .time, .fs, .mm, .cp, .free] s.blk t.blk) ∧
  (∀ (s : State) (bad : List Nat), s.blk.cp.xferDue = true →
    ∃ t, exec (.wearTransfer bad) s = .next t ∧ t.blk.cp.xferDue = false ∧ t.blk.cp.lastXfer = some t.blk.elapsed ∧
      (∀ t0, s.blk.cp.lastXfer = some t0 → t.blk.elapsed = max s.blk.elapsed (t0 + secUnits)) ∧
      t.blk.g pgLG LG_WEAR_STAT_FLUSHES = (s.blk.g pgLG LG_WEAR_STAT_FLUSHES + 1) % 2 ^ 16 ∧ t.pending = s.pending) ∧
  (∀ s : State, s.blk.cpState = cpPRESENT → s.blk.on pgCP CP_STATUS_WALK_BUSY = false →
    (∃ t, exec .lifeWalkRequest s = .next t ∧ t.blk.on pgCP CP_STATUS_WALK_BUSY = true ∧
      t.blk.cp = { s.blk.cp with walkDue := false } ∧ Block.onlyWords [(pgCP, 0x040)] s.blk t.blk ∧ s.unitsOnly [.regs, .cp] t) ∧
    (s.blk.cp.walkDue = true → ∃ t, exec .lifeWalk s = .next t ∧ exec .lifeWalkRequest s = .next t)) ∧
  (∀ (s : State) (sl : Nat), s.blk.on pgCP CP_STATUS_WALK_BUSY = true → s.blk.cp.openRec = some sl →
    ∃ t, exec .walkComplete s = .next t ∧ t.blk.on pgCP CP_STATUS_WALK_BUSY = false ∧
      t.blk.g pgCP CP_LIFE_WORST = (Sys.worst { blk := s.blk, mem := s.mem } sl).1 % 2 ^ 14 ∧
      t.blk.g pgCP CP_LIFE_PCT = min 2047 (Sys.worst { blk := s.blk, mem := s.mem } sl).2 ∧
      t.pending = s.pending ∧ Block.onlyParts [.regs, .events, .fs, .mm, .free] s.blk t.blk)

/-! ### The whole machine -/

/-- A step takes the command at the front of the queue, and is its meaning on the rest. -/
def Obligations.StepRunsFront : Prop :=
  ∀ (c : Instr) (s : State), step { s with pending := c :: s.pending } = exec c s

/-- On an empty queue a step is a tick: 1 ns passes, in which only counters move. The model's choice (log 3): the command table has no
row for a tick. -/
def Obligations.IdleTick : Prop :=
  ∀ s : State, s.pending = [] → ∃ t, step s = .next t ∧ t.blk.now = s.blk.now + 256 ∧ t.blk.elapsed = s.blk.elapsed + 256 ∧
    s.unitsOnly [.cnt, .time] t

/-- The state after reset: no command waits, the memories list nothing, device time is 0 with the status UNSET, every commit slot is IDLE,
no class is pending, the group map holds the words of R328, every NI is in rule set A, and the pins TIME_VALID (05 R125), FAULT_N and SAFE_N (12 R377) are low. The TAP's IDCODE and Capture-IR are
what 19 R541 says. -/
def Obligations.ResetState : Prop :=
  State.reset.inv ∧ State.reset.pending = [] ∧ State.reset.mem.cells = [] ∧ State.reset.mem.flags = [] ∧
  State.reset.blk.now = 0 ∧ State.reset.blk.timeStatus = tsUNSET ∧ State.reset.blk.allSlotsIdle = true ∧
  State.reset.blk.g pgFC FC_PEND_PEND = 0 ∧ State.reset.blk.safe = false ∧
  (∀ j, j < 24 → State.reset.blk.rd pgGT (0x080 + 4 * j) = 0x22222222#32) ∧ State.reset.blk.rd pgGT 0x0E0 = 0x33333333#32 ∧
  State.reset.blk.rd pgGT 0x0E4 = 0x111E0000#32 ∧ State.reset.blk.rd pgGT 0x0E8 = 0x01111111#32 ∧
  (∀ i, i < 216 → State.reset.blk.activeSet i = 0) ∧ State.reset.blk.timeValid = false ∧
  State.reset.blk.faultN = false ∧ State.reset.blk.safeN = false ∧
  idcode = 0x10E9654B#32 ∧ irCapture = 1#4 ∧ (∀ ir, tapInstr ir = .bypass ↔ ir ≠ 1#4 ∧ ir ≠ 8#4)

/-- The invariant: the memories are in their one canonical form and every waiting command names objects that exist. Every step keeps it. -/
def Obligations.StepKeepsInvariant : Prop :=
  ∀ s t : State, s.inv → step s = .next t → t.inv

/-- A command stops exactly where it names an object that the block does not have; nothing is refused, and every other command
answers a next state. What a command does depends on nothing that waits behind it, and it leaves the queue alone. -/
def Obligations.StopsExactly : Prop :=
  (∀ (c : Instr) (s : State), (c.wellFormed = false → exec c s = .fault .noSuchObject) ∧
    (c.wellFormed = true → ∃ t, exec c s = .next t ∧ t.pending = s.pending)) ∧
  (∀ (c : Instr) (s t : State) (q : List Instr), exec c s = .next t →
    t.pending = s.pending ∧ exec c { s with pending := q } = .next { t with pending := q })


/-- The commands of the links, nodes, time, commits, power requests, faults and observation store to no memory of the block: every byte and
every word's flags read as before. -/
def Obligations.MemorySpared : Prop :=
  ∀ (c : Instr) (s t : State), sparesMemory c = true → exec c s = .next t →
    (∀ a, t.mem.byteAt a = s.mem.byteAt a) ∧ (∀ w, t.mem.flagsAt w = s.mem.flagsAt w)

/-- A word of a bank's frond area that a master writes whole, with no flip mask armed, reads back as written with status OK, and no other
byte below the granule map changes (R333-R335). -/
def Obligations.BankReadsBack : Prop :=
  ∀ (w : Sys) (k off : Nat) (bs : List Byte), k < 8 → off % 16 = 0 → off < 0x7DC000 → bs.length = 16 →
    w.blk.on pgMM MM_FLIPMASK_ARM = false →
    ((w.write (bankAddr k off) bs).read (bankAddr k off) 16).1 = bs ∧
    ((w.write (bankAddr k off) bs).read (bankAddr k off) 16).2.1 = stOK ∧
    (∀ x, x < 0x7DC000 → x / 16 ≠ off / 16 → (w.write (bankAddr k off) bs).mem.byteAt (bankAddr k x) = w.mem.byteAt (bankAddr k x))

/-! ### The peristome (10 R303-R316) -/

/-- R313: an access is decided by its first and its last byte; it is granted exactly where an access of each of them alone would be. -/
def Obligations.FirstAndLastByte : Prop :=
  ∀ (b : Block) (i set : Nat) (n : Option Nat) (g : Nat) (outside : Bool) (o a z : Nat),
    b.verdict i set n g outside o a z = stOK ↔
      b.verdict i set n g outside o a a = stOK ∧ b.verdict i set n g outside o z z = stOK

/-- A request that the peristome of its NI did not grant when its head was decoded (R304) has no effect on any byte of memory and on any register word (R312); one that
touches the ledger's key region is LOCKED (R247). -/
def Obligations.RefusedAccess : Prop :=
  (∀ (s : State) (i : Nat) (p : Packet) (rest : List Packet), i < 216 →
    takeFirst (fun q => q.isRequest i && !(q.forEndpoint && s.blk.resuming i)) (s.blk.ni i).rx = some (p, rest) → p.peri ≠ stOK →
    p.opc ≠ oPROBE →
    ∃ t, exec (.requestDeliver i) s = .next t ∧ (t.blk.ni i).rx = rest ∧ Block.onlyPages [] s.blk t.blk ∧
      s.unitsOnly [.regs, .cnt, .events, .nis, .ports, .evl] t) ∧
  (∀ (b : Block) (i set : Nat) (n : Option Nat) (g : Nat) (outside : Bool) (o a z : Nat), inKeyRegion a = true ∨ inKeyRegion z = true →
    b.verdict i set n g outside o a z = stLOCKED)
end

