-- ==== Sys2Proof/Laws/Maps.lean ====
section
/-! SUPPORT. Laws of finite maps: a read after a write, and the canonical form that every operation keeps. -/
namespace Sys2Proof.Machine

variable {β : Type}

@[simp] theorem AMap.get_nil (d : β) (k : Nat) : AMap.get d [] k = d := rfl

theorem AMap.get_cons (d : β) (k' : Nat) (v : β) (m : AMap β) (k : Nat) :
    AMap.get d ((k', v) :: m) k = if k' = k then v else AMap.get d m k := rfl

theorem AMap.get_put_self (d : β) (m : AMap β) (k : Nat) (v : β) : AMap.get d (m.put k v) k = v := by
  induction m with
  | nil => simp [AMap.put, AMap.get]
  | cons e m ih =>
    obtain ⟨k', v'⟩ := e
    simp only [AMap.put]
    split
    · simp [AMap.get]
    · split
      · simp [AMap.get]
      · rename_i h; simp [AMap.get, ih, Ne.symm h]

theorem AMap.get_put_ne (d : β) (m : AMap β) {k j : Nat} (v : β) (h : k ≠ j) :
    AMap.get d (m.put k v) j = AMap.get d m j := by
  induction m with
  | nil => simp [AMap.put, AMap.get, h]
  | cons e m ih =>
    obtain ⟨k', v'⟩ := e
    simp only [AMap.put]
    split
    · simp [AMap.get, h]
    · split
      · subst_vars; simp [AMap.get, h]
      · simp [AMap.get, ih]

theorem AMap.get_drop_self (d : β) (m : AMap β) (k : Nat) : AMap.get d (m.filter (fun e => e.1 != k)) k = d := by
  induction m with
  | nil => rfl
  | cons e m ih =>
    obtain ⟨k', v'⟩ := e
    by_cases h : k' = k <;> simp_all [AMap.get]

theorem AMap.get_drop_ne (d : β) (m : AMap β) {k j : Nat} (h : k ≠ j) :
    AMap.get d (m.filter (fun e => e.1 != k)) j = AMap.get d m j := by
  induction m with
  | nil => rfl
  | cons e m ih =>
    obtain ⟨k', v'⟩ := e
    by_cases h' : k' = k
    · subst h'; simp_all [AMap.get]
    · simp_all [AMap.get]

/-- A read of the key just written. -/
@[simp] theorem AMap.get_set_self [DecidableEq β] (d : β) (m : AMap β) (k : Nat) (v : β) :
    AMap.get d (AMap.set d m k v) k = v := by
  unfold AMap.set
  split
  · rename_i h; rw [AMap.get_drop_self, h]
  · exact AMap.get_put_self d m k v

/-- A read of another key. -/
theorem AMap.get_set_ne [DecidableEq β] (d d' : β) (m : AMap β) {k j : Nat} (v : β) (h : k ≠ j) :
    AMap.get d' (AMap.set d m k v) j = AMap.get d' m j := by
  unfold AMap.set
  split
  · exact AMap.get_drop_ne d' m h
  · exact AMap.get_put_ne d' m v h

theorem AMap.get_set [DecidableEq β] (d : β) (m : AMap β) (k j : Nat) (v : β) :
    AMap.get d (AMap.set d m k v) j = if k = j then v else AMap.get d m j := by
  split
  · rename_i h; subst h; simp
  · rename_i h; exact AMap.get_set_ne d d m v h

/-! ### The canonical form -/

theorem AMap.wfFrom_mono [DecidableEq β] (d : β) {lo lo' : Nat} (h : lo' ≤ lo) (m : AMap β) (hm : AMap.wfFrom d lo m = true) :
    AMap.wfFrom d lo' m = true := by
  cases m with
  | nil => rfl
  | cons e m => simp_all [AMap.wfFrom]; omega

theorem AMap.wfFrom_put [DecidableEq β] (d : β) (m : AMap β) {lo k : Nat} {v : β} (hk : lo ≤ k) (hv : v ≠ d)
    (hm : AMap.wfFrom d lo m = true) : AMap.wfFrom d lo (m.put k v) = true := by
  induction m generalizing lo with
  | nil => simp [AMap.put, AMap.wfFrom, hk, hv]
  | cons e m ih =>
    obtain ⟨k', v'⟩ := e
    simp only [AMap.wfFrom, Bool.and_eq_true, decide_eq_true_eq] at hm
    simp only [AMap.put]
    split
    · simp [AMap.wfFrom, hk, hv, hm.1.2, hm.2]; omega
    · split
      · subst_vars; simp [AMap.wfFrom, hv, hm.1.1, hm.2]
      · have h1 : k' + 1 ≤ k := by omega
        simp [AMap.wfFrom, hm.1.1, hm.1.2, ih h1 hm.2]

theorem AMap.wfFrom_filter [DecidableEq β] (d : β) (p : Nat × β → Bool) (m : AMap β) {lo : Nat}
    (hm : AMap.wfFrom d lo m = true) : AMap.wfFrom d lo (m.filter p) = true := by
  induction m generalizing lo with
  | nil => rfl
  | cons e m ih =>
    obtain ⟨k', v'⟩ := e
    simp only [AMap.wfFrom, Bool.and_eq_true, decide_eq_true_eq] at hm
    simp only [List.filter_cons]
    split
    · simp [AMap.wfFrom, hm.1.1, hm.1.2, ih hm.2]
    · exact AMap.wfFrom_mono d (by omega) _ (ih hm.2)

theorem AMap.wf_set [DecidableEq β] (d : β) (m : AMap β) (k : Nat) (v : β) (hm : AMap.wf d m = true) :
    AMap.wf d (AMap.set d m k v) = true := by
  unfold AMap.set AMap.wf
  split
  · exact AMap.wfFrom_filter d _ m hm
  · rename_i h; exact AMap.wfFrom_put d m (Nat.zero_le _) h hm

theorem AMap.wf_drop [DecidableEq β] (d : β) (m : AMap β) (lo hi : Nat) (hm : AMap.wf d m = true) :
    AMap.wf d (m.drop lo hi) = true := AMap.wfFrom_filter d _ m hm

end Sys2Proof.Machine
end

