-- ==== Sys2Proof/Laws/Regs.lean ====
section
/-! SUPPORT. Laws of bit fields and of the register file: a field or a word read after a field or a word was written
(00 R9; 18 R515). -/
namespace Sys2Proof.Machine

/-! ### Bit fields -/

theorem bitsOf_lt (n lo w : Nat) : bitsOf n lo w < 2 ^ w := Nat.mod_lt _ (Nat.two_pow_pos w)

theorem putBits_div (n lo w v : Nat) : putBits n lo w v / 2 ^ (lo + w) = n / 2 ^ (lo + w) := by
  have h1 : n % 2 ^ lo < 2 ^ lo := Nat.mod_lt _ (Nat.two_pow_pos lo)
  have h2 : v % 2 ^ w < 2 ^ w := Nat.mod_lt _ (Nat.two_pow_pos w)
  have h3 : v % 2 ^ w * 2 ^ lo + n % 2 ^ lo < 2 ^ (lo + w) := by
    rw [Nat.pow_add]
    calc v % 2 ^ w * 2 ^ lo + n % 2 ^ lo < v % 2 ^ w * 2 ^ lo + 2 ^ lo := by omega
      _ = (v % 2 ^ w + 1) * 2 ^ lo := by ring
      _ ≤ 2 ^ w * 2 ^ lo := Nat.mul_le_mul_right _ h2
      _ = 2 ^ lo * 2 ^ w := Nat.mul_comm _ _
  unfold putBits
  rw [Nat.add_assoc, Nat.add_comm, Nat.add_mul_div_right _ _ (Nat.two_pow_pos _), Nat.div_eq_of_lt h3, Nat.zero_add]

theorem putBits_mod (n lo w v : Nat) : putBits n lo w v % 2 ^ lo = n % 2 ^ lo := by
  have h : putBits n lo w v = n % 2 ^ lo + 2 ^ lo * (n / 2 ^ (lo + w) * 2 ^ w + v % 2 ^ w) := by
    unfold putBits; rw [Nat.pow_add]; ring
  rw [h, Nat.add_mul_mod_self_left, Nat.mod_mod]

theorem putBits_shift (n lo w v : Nat) : putBits n lo w v / 2 ^ lo = n / 2 ^ (lo + w) * 2 ^ w + v % 2 ^ w := by
  have h : putBits n lo w v = n % 2 ^ lo + 2 ^ lo * (n / 2 ^ (lo + w) * 2 ^ w + v % 2 ^ w) := by
    unfold putBits; rw [Nat.pow_add]; ring
  rw [h, Nat.add_mul_div_left _ _ (Nat.two_pow_pos lo), Nat.div_eq_of_lt (Nat.mod_lt _ (Nat.two_pow_pos lo)), Nat.zero_add]

/-- The field just put. -/
theorem bitsOf_putBits_self (n lo w v : Nat) : bitsOf (putBits n lo w v) lo w = v % 2 ^ w := by
  unfold bitsOf
  rw [putBits_shift, Nat.mul_add_mod_of_lt' (Nat.mod_lt _ (Nat.two_pow_pos w))]
where
  Nat.mul_add_mod_of_lt' {a b c : Nat} (h : c < b) : (a * b + c) % b = c := by
    rw [Nat.add_comm, Nat.add_mul_mod_self_right, Nat.mod_eq_of_lt h]

theorem bitsOf_of_mod (n lo w k : Nat) (h : lo + w ≤ k) : bitsOf (n % 2 ^ k) lo w = bitsOf n lo w := by
  unfold bitsOf
  obtain ⟨d, rfl⟩ := Nat.exists_eq_add_of_le h
  rw [Nat.pow_add, Nat.pow_add, Nat.mul_assoc, Nat.mod_mul_right_div_self, Nat.mod_mul_right_mod]

/-- A field below the one put. -/
theorem bitsOf_putBits_below (n lo w v lo' w' : Nat) (h : lo' + w' ≤ lo) : bitsOf (putBits n lo w v) lo' w' = bitsOf n lo' w' := by
  rw [← bitsOf_of_mod _ lo' w' lo h, putBits_mod, bitsOf_of_mod _ lo' w' lo h]

/-- A field above the one put. -/
theorem bitsOf_putBits_above (n lo w v lo' w' : Nat) (h : lo + w ≤ lo') : bitsOf (putBits n lo w v) lo' w' = bitsOf n lo' w' := by
  obtain ⟨d, rfl⟩ := Nat.exists_eq_add_of_le h
  unfold bitsOf
  rw [Nat.pow_add, ← Nat.div_div_eq_div_mul, putBits_div, Nat.div_div_eq_div_mul]

/-! ### Words -/

/-- Two word-aligned offsets of pages name the same word only if they are the same. -/
theorem regKey_inj {p q off off' : Nat} (h : off < 4096) (h' : off' < 4096) (ha : off % 4 = 0) (ha' : off' % 4 = 0) :
    regKey p off = regKey q off' ↔ p = q ∧ off = off' := by
  unfold regKey; omega

@[simp] theorem Block.rd_wr_self (b : Block) (p off : Nat) (w : Word) : (b.wr p off w).rd p off = w := by
  simp [Block.rd, Block.wr]

theorem Block.rd_wr_ne (b : Block) (p off q off' : Nat) (w : Word) (h : regKey p off ≠ regKey q off') :
    (b.wr p off w).rd q off' = b.rd q off' := by
  simp [Block.rd, Block.wr, AMap.get_set_ne _ _ _ _ h]

@[simp] theorem Block.rdLive_wr (b : Block) (p off q off' : Nat) (w : Word) : (b.wr p off w).rdLive q off' = b.rdLive q off' := rfl
@[simp] theorem Block.rd_wrLive (b : Block) (p off q off' : Nat) (w : Word) : (b.wrLive p off w).rd q off' = b.rd q off' := rfl

@[simp] theorem Block.rdLive_wrLive_self (b : Block) (p off : Nat) (w : Word) : (b.wrLive p off w).rdLive p off = w := by
  simp [Block.rdLive, Block.wrLive]

theorem Block.rdLive_wrLive_ne (b : Block) (p off q off' : Nat) (w : Word) (h : regKey p off ≠ regKey q off') :
    (b.wrLive p off w).rdLive q off' = b.rdLive q off' := by
  simp [Block.rdLive, Block.wrLive, AMap.get_set_ne _ _ _ _ h]

/-! ### Fields -/

/-- Another word is as it was. -/
theorem Block.rd_s_ne (b : Block) (p : Nat) (f : Fld) (v q off : Nat) (h : regKey p f.off ≠ regKey q off) :
    (b.s p f v).rd q off = b.rd q off := Block.rd_wr_ne b p f.off q off _ h

/-- The field just written. -/
theorem Block.g_s_self (b : Block) (p : Nat) (f : Fld) (v : Nat) (h : f.lo + f.w ≤ 32) : (b.s p f v).g p f = v % 2 ^ f.w := by
  unfold Block.g Block.s
  rw [Block.rd_wr_self, BitVec.toNat_ofNat, bitsOf_of_mod _ _ _ _ h, bitsOf_putBits_self]

/-- Another field of the same word. -/
theorem Block.g_s_word (b : Block) (p : Nat) (f g : Fld) (v : Nat) (ho : f.off = g.off) (h : g.lo + g.w ≤ 32)
    (hd : g.lo + g.w ≤ f.lo ∨ f.lo + f.w ≤ g.lo) : (b.s p f v).g p g = b.g p g := by
  unfold Block.g Block.s
  rw [← ho, Block.rd_wr_self, BitVec.toNat_ofNat, bitsOf_of_mod _ _ _ _ h]
  rcases hd with hd | hd
  · exact bitsOf_putBits_below _ _ _ _ _ _ hd
  · exact bitsOf_putBits_above _ _ _ _ _ _ hd

/-- A field of another word. -/
theorem Block.g_s_ne (b : Block) (p q : Nat) (f g : Fld) (v : Nat) (h : regKey p f.off ≠ regKey q g.off) :
    (b.s p f v).g q g = b.g q g := by
  unfold Block.g; rw [Block.rd_s_ne b p f v q g.off h]

/-- A field of another page. -/
theorem Block.g_s_page (b : Block) (p q : Nat) (f g : Fld) (v : Nat) (hp : p ≠ q) (h : f.off < 4096) (h' : g.off < 4096) :
    (b.s p f v).g q g = b.g q g := by
  apply Block.g_s_ne; unfold regKey; omega

theorem Block.on_eq (b : Block) (p : Nat) (f : Fld) : b.on p f = (b.g p f != 0) := rfl

/-! ### The parts of State that are kept by number -/

@[simp] theorem Block.node_setNode (b : Block) (n m : Nat) (v : Node) : (b.setNode n v).node m = if n = m then v else b.node m := by
  simp [Block.node, Block.setNode, AMap.get_set]

@[simp] theorem Block.node_modNode (b : Block) (n m : Nat) (f : Node → Node) :
    (b.modNode n f).node m = if n = m then f (b.node n) else b.node m := by simp [Block.modNode]

@[simp] theorem Block.ni_setNi (b : Block) (i j : Nat) (v : Ni) : (b.setNi i v).ni j = if i = j then v else b.ni j := by
  simp [Block.ni, Block.setNi, AMap.get_set]

@[simp] theorem Block.ni_modNi (b : Block) (i j : Nat) (f : Ni → Ni) :
    (b.modNi i f).ni j = if i = j then f (b.ni i) else b.ni j := by simp [Block.modNi]

@[simp] theorem Block.cell_modCell (b : Block) (n m : Nat) (f : Cell → Cell) :
    (b.modCell n f).cell m = if n = m then f (b.cell n) else b.cell m := by
  simp [Block.cell, Block.modCell, AMap.get_set]

@[simp] theorem Block.slot_modSlot (b : Block) (k j : Nat) (f : Slot → Slot) :
    (b.modSlot k f).slot j = if k = j then f (b.slot k) else b.slot j := by
  simp [Block.slot, Block.modSlot, AMap.get_set]

@[simp] theorem Block.fsb_modFs (b : Block) (k j : Nat) (f : Fs → Fs) :
    (b.modFs k f).fsb j = if k = j then f (b.fsb k) else b.fsb j := by
  simp [Block.fsb, Block.modFs, AMap.get_set]

@[simp] theorem Block.dom_modDom (b : Block) (d e : Nat) (f : Dom → Dom) :
    (b.modDom d f).dom e = if d = e then f (b.dom d) else b.dom e := by
  simp [Block.dom, Block.modDom, AMap.get_set]

@[simp] theorem Block.rail_modRail (b : Block) (r q : Nat) (f : Rail → Rail) :
    (b.modRail r f).rail q = if r = q then f (b.rail r) else b.rail q := by
  simp [Block.rail, Block.modRail, AMap.get_set]

@[simp] theorem Block.port_modPort (b : Block) (m n : Nat) (f : MPort → MPort) :
    (b.modPort m f).port n = if m = n then f (b.port m) else b.port n := by
  simp [Block.port, Block.modPort, AMap.get_set]

theorem Block.crec_modRec_self (b : Block) (i k : Nat) (f : CRec → CRec) : (b.modRec i k f).crec i k = f (b.crec i k) := by
  simp [Block.crec, Block.modRec, Ni.crec]

theorem Block.counter_setCounter (b : Block) (p off q off' : Nat) (c : Counter) :
    (b.setCounter p off c).counter q off' = if cntKey p off = cntKey q off' then c else b.counter q off' := by
  simp [Block.counter, Block.setCounter, AMap.get_set]

end Sys2Proof.Machine
end

