-- ==== Sys2Proof/Laws/State.lean ====
section
/-! SUPPORT. What each update of the units leaves alone: one law for each field. -/
namespace Sys2Proof.Machine

/-! ### wr -/

@[simp] theorem Block.wr_live (b : Block) (p off : Nat) (w : Word) : (b.wr p off w).live = b.live := rfl
@[simp] theorem Block.wr_cnt (b : Block) (p off : Nat) (w : Word) : (b.wr p off w).cnt = b.cnt := rfl
@[simp] theorem Block.wr_events (b : Block) (p off : Nat) (w : Word) : (b.wr p off w).events = b.events := rfl
@[simp] theorem Block.wr_now (b : Block) (p off : Nat) (w : Word) : (b.wr p off w).now = b.now := rfl
@[simp] theorem Block.wr_elapsed (b : Block) (p off : Nat) (w : Word) : (b.wr p off w).elapsed = b.elapsed := rfl
@[simp] theorem Block.wr_tu (b : Block) (p off : Nat) (w : Word) : (b.wr p off w).tu = b.tu := rfl
@[simp] theorem Block.wr_cells (b : Block) (p off : Nat) (w : Word) : (b.wr p off w).cells = b.cells := rfl
@[simp] theorem Block.wr_nodes (b : Block) (p off : Nat) (w : Word) : (b.wr p off w).nodes = b.nodes := rfl
@[simp] theorem Block.wr_nis (b : Block) (p off : Nat) (w : Word) : (b.wr p off w).nis = b.nis := rfl
@[simp] theorem Block.wr_ports (b : Block) (p off : Nat) (w : Word) : (b.wr p off w).ports = b.ports := rfl
@[simp] theorem Block.wr_csq (b : Block) (p off : Nat) (w : Word) : (b.wr p off w).csq = b.csq := rfl
@[simp] theorem Block.wr_fs (b : Block) (p off : Nat) (w : Word) : (b.wr p off w).fs = b.fs := rfl
@[simp] theorem Block.wr_evl (b : Block) (p off : Nat) (w : Word) : (b.wr p off w).evl = b.evl := rfl
@[simp] theorem Block.wr_gt (b : Block) (p off : Nat) (w : Word) : (b.wr p off w).gt = b.gt := rfl
@[simp] theorem Block.wr_mm (b : Block) (p off : Nat) (w : Word) : (b.wr p off w).mm = b.mm := rfl
@[simp] theorem Block.wr_fc (b : Block) (p off : Nat) (w : Word) : (b.wr p off w).fc = b.fc := rfl
@[simp] theorem Block.wr_pm (b : Block) (p off : Nat) (w : Word) : (b.wr p off w).pm = b.pm := rfl
@[simp] theorem Block.wr_pr (b : Block) (p off : Nat) (w : Word) : (b.wr p off w).pr = b.pr := rfl
@[simp] theorem Block.wr_stw (b : Block) (p off : Nat) (w : Word) : (b.wr p off w).stw = b.stw := rfl
@[simp] theorem Block.wr_lc (b : Block) (p off : Nat) (w : Word) : (b.wr p off w).lc = b.lc := rfl
@[simp] theorem Block.wr_cp (b : Block) (p off : Nat) (w : Word) : (b.wr p off w).cp = b.cp := rfl
@[simp] theorem Block.wr_dbg (b : Block) (p off : Nat) (w : Word) : (b.wr p off w).dbg = b.dbg := rfl
@[simp] theorem Block.wr_lastCut (b : Block) (p off : Nat) (w : Word) : (b.wr p off w).lastCut = b.lastCut := rfl
@[simp] theorem Block.wr_spOut (b : Block) (p off : Nat) (w : Word) : (b.wr p off w).spOut = b.spOut := rfl
@[simp] theorem Block.wr_pins (b : Block) (p off : Nat) (w : Word) : (b.wr p off w).pins = b.pins := rfl
@[simp] theorem Block.wr_free (b : Block) (p off : Nat) (w : Word) : (b.wr p off w).free = b.free := rfl

/-! ### s -/

@[simp] theorem Block.s_live (b : Block) (p : Nat) (f : Fld) (v : Nat) : (b.s p f v).live = b.live := rfl
@[simp] theorem Block.s_cnt (b : Block) (p : Nat) (f : Fld) (v : Nat) : (b.s p f v).cnt = b.cnt := rfl
@[simp] theorem Block.s_events (b : Block) (p : Nat) (f : Fld) (v : Nat) : (b.s p f v).events = b.events := rfl
@[simp] theorem Block.s_now (b : Block) (p : Nat) (f : Fld) (v : Nat) : (b.s p f v).now = b.now := rfl
@[simp] theorem Block.s_elapsed (b : Block) (p : Nat) (f : Fld) (v : Nat) : (b.s p f v).elapsed = b.elapsed := rfl
@[simp] theorem Block.s_tu (b : Block) (p : Nat) (f : Fld) (v : Nat) : (b.s p f v).tu = b.tu := rfl
@[simp] theorem Block.s_cells (b : Block) (p : Nat) (f : Fld) (v : Nat) : (b.s p f v).cells = b.cells := rfl
@[simp] theorem Block.s_nodes (b : Block) (p : Nat) (f : Fld) (v : Nat) : (b.s p f v).nodes = b.nodes := rfl
@[simp] theorem Block.s_nis (b : Block) (p : Nat) (f : Fld) (v : Nat) : (b.s p f v).nis = b.nis := rfl
@[simp] theorem Block.s_ports (b : Block) (p : Nat) (f : Fld) (v : Nat) : (b.s p f v).ports = b.ports := rfl
@[simp] theorem Block.s_csq (b : Block) (p : Nat) (f : Fld) (v : Nat) : (b.s p f v).csq = b.csq := rfl
@[simp] theorem Block.s_fs (b : Block) (p : Nat) (f : Fld) (v : Nat) : (b.s p f v).fs = b.fs := rfl
@[simp] theorem Block.s_evl (b : Block) (p : Nat) (f : Fld) (v : Nat) : (b.s p f v).evl = b.evl := rfl
@[simp] theorem Block.s_gt (b : Block) (p : Nat) (f : Fld) (v : Nat) : (b.s p f v).gt = b.gt := rfl
@[simp] theorem Block.s_mm (b : Block) (p : Nat) (f : Fld) (v : Nat) : (b.s p f v).mm = b.mm := rfl
@[simp] theorem Block.s_fc (b : Block) (p : Nat) (f : Fld) (v : Nat) : (b.s p f v).fc = b.fc := rfl
@[simp] theorem Block.s_pm (b : Block) (p : Nat) (f : Fld) (v : Nat) : (b.s p f v).pm = b.pm := rfl
@[simp] theorem Block.s_pr (b : Block) (p : Nat) (f : Fld) (v : Nat) : (b.s p f v).pr = b.pr := rfl
@[simp] theorem Block.s_stw (b : Block) (p : Nat) (f : Fld) (v : Nat) : (b.s p f v).stw = b.stw := rfl
@[simp] theorem Block.s_lc (b : Block) (p : Nat) (f : Fld) (v : Nat) : (b.s p f v).lc = b.lc := rfl
@[simp] theorem Block.s_cp (b : Block) (p : Nat) (f : Fld) (v : Nat) : (b.s p f v).cp = b.cp := rfl
@[simp] theorem Block.s_dbg (b : Block) (p : Nat) (f : Fld) (v : Nat) : (b.s p f v).dbg = b.dbg := rfl
@[simp] theorem Block.s_lastCut (b : Block) (p : Nat) (f : Fld) (v : Nat) : (b.s p f v).lastCut = b.lastCut := rfl
@[simp] theorem Block.s_spOut (b : Block) (p : Nat) (f : Fld) (v : Nat) : (b.s p f v).spOut = b.spOut := rfl
@[simp] theorem Block.s_pins (b : Block) (p : Nat) (f : Fld) (v : Nat) : (b.s p f v).pins = b.pins := rfl
@[simp] theorem Block.s_free (b : Block) (p : Nat) (f : Fld) (v : Nat) : (b.s p f v).free = b.free := rfl

/-! ### s64 -/

@[simp] theorem Block.s64_live (b : Block) (p off v : Nat) : (b.s64 p off v).live = b.live := rfl
@[simp] theorem Block.s64_cnt (b : Block) (p off v : Nat) : (b.s64 p off v).cnt = b.cnt := rfl
@[simp] theorem Block.s64_events (b : Block) (p off v : Nat) : (b.s64 p off v).events = b.events := rfl
@[simp] theorem Block.s64_now (b : Block) (p off v : Nat) : (b.s64 p off v).now = b.now := rfl
@[simp] theorem Block.s64_elapsed (b : Block) (p off v : Nat) : (b.s64 p off v).elapsed = b.elapsed := rfl
@[simp] theorem Block.s64_tu (b : Block) (p off v : Nat) : (b.s64 p off v).tu = b.tu := rfl
@[simp] theorem Block.s64_cells (b : Block) (p off v : Nat) : (b.s64 p off v).cells = b.cells := rfl
@[simp] theorem Block.s64_nodes (b : Block) (p off v : Nat) : (b.s64 p off v).nodes = b.nodes := rfl
@[simp] theorem Block.s64_nis (b : Block) (p off v : Nat) : (b.s64 p off v).nis = b.nis := rfl
@[simp] theorem Block.s64_ports (b : Block) (p off v : Nat) : (b.s64 p off v).ports = b.ports := rfl
@[simp] theorem Block.s64_csq (b : Block) (p off v : Nat) : (b.s64 p off v).csq = b.csq := rfl
@[simp] theorem Block.s64_fs (b : Block) (p off v : Nat) : (b.s64 p off v).fs = b.fs := rfl
@[simp] theorem Block.s64_evl (b : Block) (p off v : Nat) : (b.s64 p off v).evl = b.evl := rfl
@[simp] theorem Block.s64_gt (b : Block) (p off v : Nat) : (b.s64 p off v).gt = b.gt := rfl
@[simp] theorem Block.s64_mm (b : Block) (p off v : Nat) : (b.s64 p off v).mm = b.mm := rfl
@[simp] theorem Block.s64_fc (b : Block) (p off v : Nat) : (b.s64 p off v).fc = b.fc := rfl
@[simp] theorem Block.s64_pm (b : Block) (p off v : Nat) : (b.s64 p off v).pm = b.pm := rfl
@[simp] theorem Block.s64_pr (b : Block) (p off v : Nat) : (b.s64 p off v).pr = b.pr := rfl
@[simp] theorem Block.s64_stw (b : Block) (p off v : Nat) : (b.s64 p off v).stw = b.stw := rfl
@[simp] theorem Block.s64_lc (b : Block) (p off v : Nat) : (b.s64 p off v).lc = b.lc := rfl
@[simp] theorem Block.s64_cp (b : Block) (p off v : Nat) : (b.s64 p off v).cp = b.cp := rfl
@[simp] theorem Block.s64_dbg (b : Block) (p off v : Nat) : (b.s64 p off v).dbg = b.dbg := rfl
@[simp] theorem Block.s64_lastCut (b : Block) (p off v : Nat) : (b.s64 p off v).lastCut = b.lastCut := rfl
@[simp] theorem Block.s64_spOut (b : Block) (p off v : Nat) : (b.s64 p off v).spOut = b.spOut := rfl
@[simp] theorem Block.s64_pins (b : Block) (p off v : Nat) : (b.s64 p off v).pins = b.pins := rfl
@[simp] theorem Block.s64_free (b : Block) (p off v : Nat) : (b.s64 p off v).free = b.free := rfl

/-! ### bump -/

@[simp] theorem Block.bump_live (b : Block) (p : Nat) (f : Fld) (k : Nat) : (b.bump p f k).live = b.live := rfl
@[simp] theorem Block.bump_cnt (b : Block) (p : Nat) (f : Fld) (k : Nat) : (b.bump p f k).cnt = b.cnt := rfl
@[simp] theorem Block.bump_events (b : Block) (p : Nat) (f : Fld) (k : Nat) : (b.bump p f k).events = b.events := rfl
@[simp] theorem Block.bump_now (b : Block) (p : Nat) (f : Fld) (k : Nat) : (b.bump p f k).now = b.now := rfl
@[simp] theorem Block.bump_elapsed (b : Block) (p : Nat) (f : Fld) (k : Nat) : (b.bump p f k).elapsed = b.elapsed := rfl
@[simp] theorem Block.bump_tu (b : Block) (p : Nat) (f : Fld) (k : Nat) : (b.bump p f k).tu = b.tu := rfl
@[simp] theorem Block.bump_cells (b : Block) (p : Nat) (f : Fld) (k : Nat) : (b.bump p f k).cells = b.cells := rfl
@[simp] theorem Block.bump_nodes (b : Block) (p : Nat) (f : Fld) (k : Nat) : (b.bump p f k).nodes = b.nodes := rfl
@[simp] theorem Block.bump_nis (b : Block) (p : Nat) (f : Fld) (k : Nat) : (b.bump p f k).nis = b.nis := rfl
@[simp] theorem Block.bump_ports (b : Block) (p : Nat) (f : Fld) (k : Nat) : (b.bump p f k).ports = b.ports := rfl
@[simp] theorem Block.bump_csq (b : Block) (p : Nat) (f : Fld) (k : Nat) : (b.bump p f k).csq = b.csq := rfl
@[simp] theorem Block.bump_fs (b : Block) (p : Nat) (f : Fld) (k : Nat) : (b.bump p f k).fs = b.fs := rfl
@[simp] theorem Block.bump_evl (b : Block) (p : Nat) (f : Fld) (k : Nat) : (b.bump p f k).evl = b.evl := rfl
@[simp] theorem Block.bump_gt (b : Block) (p : Nat) (f : Fld) (k : Nat) : (b.bump p f k).gt = b.gt := rfl
@[simp] theorem Block.bump_mm (b : Block) (p : Nat) (f : Fld) (k : Nat) : (b.bump p f k).mm = b.mm := rfl
@[simp] theorem Block.bump_fc (b : Block) (p : Nat) (f : Fld) (k : Nat) : (b.bump p f k).fc = b.fc := rfl
@[simp] theorem Block.bump_pm (b : Block) (p : Nat) (f : Fld) (k : Nat) : (b.bump p f k).pm = b.pm := rfl
@[simp] theorem Block.bump_pr (b : Block) (p : Nat) (f : Fld) (k : Nat) : (b.bump p f k).pr = b.pr := rfl
@[simp] theorem Block.bump_stw (b : Block) (p : Nat) (f : Fld) (k : Nat) : (b.bump p f k).stw = b.stw := rfl
@[simp] theorem Block.bump_lc (b : Block) (p : Nat) (f : Fld) (k : Nat) : (b.bump p f k).lc = b.lc := rfl
@[simp] theorem Block.bump_cp (b : Block) (p : Nat) (f : Fld) (k : Nat) : (b.bump p f k).cp = b.cp := rfl
@[simp] theorem Block.bump_dbg (b : Block) (p : Nat) (f : Fld) (k : Nat) : (b.bump p f k).dbg = b.dbg := rfl
@[simp] theorem Block.bump_lastCut (b : Block) (p : Nat) (f : Fld) (k : Nat) : (b.bump p f k).lastCut = b.lastCut := rfl
@[simp] theorem Block.bump_spOut (b : Block) (p : Nat) (f : Fld) (k : Nat) : (b.bump p f k).spOut = b.spOut := rfl
@[simp] theorem Block.bump_pins (b : Block) (p : Nat) (f : Fld) (k : Nat) : (b.bump p f k).pins = b.pins := rfl
@[simp] theorem Block.bump_free (b : Block) (p : Nat) (f : Fld) (k : Nat) : (b.bump p f k).free = b.free := rfl

/-! ### wrapInc -/

@[simp] theorem Block.wrapInc_live (b : Block) (p : Nat) (f : Fld) (k : Nat) : (b.wrapInc p f k).live = b.live := rfl
@[simp] theorem Block.wrapInc_cnt (b : Block) (p : Nat) (f : Fld) (k : Nat) : (b.wrapInc p f k).cnt = b.cnt := rfl
@[simp] theorem Block.wrapInc_events (b : Block) (p : Nat) (f : Fld) (k : Nat) : (b.wrapInc p f k).events = b.events := rfl
@[simp] theorem Block.wrapInc_now (b : Block) (p : Nat) (f : Fld) (k : Nat) : (b.wrapInc p f k).now = b.now := rfl
@[simp] theorem Block.wrapInc_elapsed (b : Block) (p : Nat) (f : Fld) (k : Nat) : (b.wrapInc p f k).elapsed = b.elapsed := rfl
@[simp] theorem Block.wrapInc_tu (b : Block) (p : Nat) (f : Fld) (k : Nat) : (b.wrapInc p f k).tu = b.tu := rfl
@[simp] theorem Block.wrapInc_cells (b : Block) (p : Nat) (f : Fld) (k : Nat) : (b.wrapInc p f k).cells = b.cells := rfl
@[simp] theorem Block.wrapInc_nodes (b : Block) (p : Nat) (f : Fld) (k : Nat) : (b.wrapInc p f k).nodes = b.nodes := rfl
@[simp] theorem Block.wrapInc_nis (b : Block) (p : Nat) (f : Fld) (k : Nat) : (b.wrapInc p f k).nis = b.nis := rfl
@[simp] theorem Block.wrapInc_ports (b : Block) (p : Nat) (f : Fld) (k : Nat) : (b.wrapInc p f k).ports = b.ports := rfl
@[simp] theorem Block.wrapInc_csq (b : Block) (p : Nat) (f : Fld) (k : Nat) : (b.wrapInc p f k).csq = b.csq := rfl
@[simp] theorem Block.wrapInc_fs (b : Block) (p : Nat) (f : Fld) (k : Nat) : (b.wrapInc p f k).fs = b.fs := rfl
@[simp] theorem Block.wrapInc_evl (b : Block) (p : Nat) (f : Fld) (k : Nat) : (b.wrapInc p f k).evl = b.evl := rfl
@[simp] theorem Block.wrapInc_gt (b : Block) (p : Nat) (f : Fld) (k : Nat) : (b.wrapInc p f k).gt = b.gt := rfl
@[simp] theorem Block.wrapInc_mm (b : Block) (p : Nat) (f : Fld) (k : Nat) : (b.wrapInc p f k).mm = b.mm := rfl
@[simp] theorem Block.wrapInc_fc (b : Block) (p : Nat) (f : Fld) (k : Nat) : (b.wrapInc p f k).fc = b.fc := rfl
@[simp] theorem Block.wrapInc_pm (b : Block) (p : Nat) (f : Fld) (k : Nat) : (b.wrapInc p f k).pm = b.pm := rfl
@[simp] theorem Block.wrapInc_pr (b : Block) (p : Nat) (f : Fld) (k : Nat) : (b.wrapInc p f k).pr = b.pr := rfl
@[simp] theorem Block.wrapInc_stw (b : Block) (p : Nat) (f : Fld) (k : Nat) : (b.wrapInc p f k).stw = b.stw := rfl
@[simp] theorem Block.wrapInc_lc (b : Block) (p : Nat) (f : Fld) (k : Nat) : (b.wrapInc p f k).lc = b.lc := rfl
@[simp] theorem Block.wrapInc_cp (b : Block) (p : Nat) (f : Fld) (k : Nat) : (b.wrapInc p f k).cp = b.cp := rfl
@[simp] theorem Block.wrapInc_dbg (b : Block) (p : Nat) (f : Fld) (k : Nat) : (b.wrapInc p f k).dbg = b.dbg := rfl
@[simp] theorem Block.wrapInc_lastCut (b : Block) (p : Nat) (f : Fld) (k : Nat) : (b.wrapInc p f k).lastCut = b.lastCut := rfl
@[simp] theorem Block.wrapInc_spOut (b : Block) (p : Nat) (f : Fld) (k : Nat) : (b.wrapInc p f k).spOut = b.spOut := rfl
@[simp] theorem Block.wrapInc_pins (b : Block) (p : Nat) (f : Fld) (k : Nat) : (b.wrapInc p f k).pins = b.pins := rfl
@[simp] theorem Block.wrapInc_free (b : Block) (p : Nat) (f : Fld) (k : Nat) : (b.wrapInc p f k).free = b.free := rfl

/-! ### setBitAt -/

@[simp] theorem Block.setBitAt_live (b : Block) (p off i : Nat) (v : Bool) : (b.setBitAt p off i v).live = b.live := rfl
@[simp] theorem Block.setBitAt_cnt (b : Block) (p off i : Nat) (v : Bool) : (b.setBitAt p off i v).cnt = b.cnt := rfl
@[simp] theorem Block.setBitAt_events (b : Block) (p off i : Nat) (v : Bool) : (b.setBitAt p off i v).events = b.events := rfl
@[simp] theorem Block.setBitAt_now (b : Block) (p off i : Nat) (v : Bool) : (b.setBitAt p off i v).now = b.now := rfl
@[simp] theorem Block.setBitAt_elapsed (b : Block) (p off i : Nat) (v : Bool) : (b.setBitAt p off i v).elapsed = b.elapsed := rfl
@[simp] theorem Block.setBitAt_tu (b : Block) (p off i : Nat) (v : Bool) : (b.setBitAt p off i v).tu = b.tu := rfl
@[simp] theorem Block.setBitAt_cells (b : Block) (p off i : Nat) (v : Bool) : (b.setBitAt p off i v).cells = b.cells := rfl
@[simp] theorem Block.setBitAt_nodes (b : Block) (p off i : Nat) (v : Bool) : (b.setBitAt p off i v).nodes = b.nodes := rfl
@[simp] theorem Block.setBitAt_nis (b : Block) (p off i : Nat) (v : Bool) : (b.setBitAt p off i v).nis = b.nis := rfl
@[simp] theorem Block.setBitAt_ports (b : Block) (p off i : Nat) (v : Bool) : (b.setBitAt p off i v).ports = b.ports := rfl
@[simp] theorem Block.setBitAt_csq (b : Block) (p off i : Nat) (v : Bool) : (b.setBitAt p off i v).csq = b.csq := rfl
@[simp] theorem Block.setBitAt_fs (b : Block) (p off i : Nat) (v : Bool) : (b.setBitAt p off i v).fs = b.fs := rfl
@[simp] theorem Block.setBitAt_evl (b : Block) (p off i : Nat) (v : Bool) : (b.setBitAt p off i v).evl = b.evl := rfl
@[simp] theorem Block.setBitAt_gt (b : Block) (p off i : Nat) (v : Bool) : (b.setBitAt p off i v).gt = b.gt := rfl
@[simp] theorem Block.setBitAt_mm (b : Block) (p off i : Nat) (v : Bool) : (b.setBitAt p off i v).mm = b.mm := rfl
@[simp] theorem Block.setBitAt_fc (b : Block) (p off i : Nat) (v : Bool) : (b.setBitAt p off i v).fc = b.fc := rfl
@[simp] theorem Block.setBitAt_pm (b : Block) (p off i : Nat) (v : Bool) : (b.setBitAt p off i v).pm = b.pm := rfl
@[simp] theorem Block.setBitAt_pr (b : Block) (p off i : Nat) (v : Bool) : (b.setBitAt p off i v).pr = b.pr := rfl
@[simp] theorem Block.setBitAt_stw (b : Block) (p off i : Nat) (v : Bool) : (b.setBitAt p off i v).stw = b.stw := rfl
@[simp] theorem Block.setBitAt_lc (b : Block) (p off i : Nat) (v : Bool) : (b.setBitAt p off i v).lc = b.lc := rfl
@[simp] theorem Block.setBitAt_cp (b : Block) (p off i : Nat) (v : Bool) : (b.setBitAt p off i v).cp = b.cp := rfl
@[simp] theorem Block.setBitAt_dbg (b : Block) (p off i : Nat) (v : Bool) : (b.setBitAt p off i v).dbg = b.dbg := rfl
@[simp] theorem Block.setBitAt_lastCut (b : Block) (p off i : Nat) (v : Bool) : (b.setBitAt p off i v).lastCut = b.lastCut := rfl
@[simp] theorem Block.setBitAt_spOut (b : Block) (p off i : Nat) (v : Bool) : (b.setBitAt p off i v).spOut = b.spOut := rfl
@[simp] theorem Block.setBitAt_pins (b : Block) (p off i : Nat) (v : Bool) : (b.setBitAt p off i v).pins = b.pins := rfl
@[simp] theorem Block.setBitAt_free (b : Block) (p off i : Nat) (v : Bool) : (b.setBitAt p off i v).free = b.free := rfl

/-! ### wrLive -/

@[simp] theorem Block.wrLive_regs (b : Block) (p off : Nat) (w : Word) : (b.wrLive p off w).regs = b.regs := rfl
@[simp] theorem Block.wrLive_cnt (b : Block) (p off : Nat) (w : Word) : (b.wrLive p off w).cnt = b.cnt := rfl
@[simp] theorem Block.wrLive_events (b : Block) (p off : Nat) (w : Word) : (b.wrLive p off w).events = b.events := rfl
@[simp] theorem Block.wrLive_now (b : Block) (p off : Nat) (w : Word) : (b.wrLive p off w).now = b.now := rfl
@[simp] theorem Block.wrLive_elapsed (b : Block) (p off : Nat) (w : Word) : (b.wrLive p off w).elapsed = b.elapsed := rfl
@[simp] theorem Block.wrLive_tu (b : Block) (p off : Nat) (w : Word) : (b.wrLive p off w).tu = b.tu := rfl
@[simp] theorem Block.wrLive_cells (b : Block) (p off : Nat) (w : Word) : (b.wrLive p off w).cells = b.cells := rfl
@[simp] theorem Block.wrLive_nodes (b : Block) (p off : Nat) (w : Word) : (b.wrLive p off w).nodes = b.nodes := rfl
@[simp] theorem Block.wrLive_nis (b : Block) (p off : Nat) (w : Word) : (b.wrLive p off w).nis = b.nis := rfl
@[simp] theorem Block.wrLive_ports (b : Block) (p off : Nat) (w : Word) : (b.wrLive p off w).ports = b.ports := rfl
@[simp] theorem Block.wrLive_csq (b : Block) (p off : Nat) (w : Word) : (b.wrLive p off w).csq = b.csq := rfl
@[simp] theorem Block.wrLive_fs (b : Block) (p off : Nat) (w : Word) : (b.wrLive p off w).fs = b.fs := rfl
@[simp] theorem Block.wrLive_evl (b : Block) (p off : Nat) (w : Word) : (b.wrLive p off w).evl = b.evl := rfl
@[simp] theorem Block.wrLive_gt (b : Block) (p off : Nat) (w : Word) : (b.wrLive p off w).gt = b.gt := rfl
@[simp] theorem Block.wrLive_mm (b : Block) (p off : Nat) (w : Word) : (b.wrLive p off w).mm = b.mm := rfl
@[simp] theorem Block.wrLive_fc (b : Block) (p off : Nat) (w : Word) : (b.wrLive p off w).fc = b.fc := rfl
@[simp] theorem Block.wrLive_pm (b : Block) (p off : Nat) (w : Word) : (b.wrLive p off w).pm = b.pm := rfl
@[simp] theorem Block.wrLive_pr (b : Block) (p off : Nat) (w : Word) : (b.wrLive p off w).pr = b.pr := rfl
@[simp] theorem Block.wrLive_stw (b : Block) (p off : Nat) (w : Word) : (b.wrLive p off w).stw = b.stw := rfl
@[simp] theorem Block.wrLive_lc (b : Block) (p off : Nat) (w : Word) : (b.wrLive p off w).lc = b.lc := rfl
@[simp] theorem Block.wrLive_cp (b : Block) (p off : Nat) (w : Word) : (b.wrLive p off w).cp = b.cp := rfl
@[simp] theorem Block.wrLive_dbg (b : Block) (p off : Nat) (w : Word) : (b.wrLive p off w).dbg = b.dbg := rfl
@[simp] theorem Block.wrLive_lastCut (b : Block) (p off : Nat) (w : Word) : (b.wrLive p off w).lastCut = b.lastCut := rfl
@[simp] theorem Block.wrLive_spOut (b : Block) (p off : Nat) (w : Word) : (b.wrLive p off w).spOut = b.spOut := rfl
@[simp] theorem Block.wrLive_pins (b : Block) (p off : Nat) (w : Word) : (b.wrLive p off w).pins = b.pins := rfl
@[simp] theorem Block.wrLive_free (b : Block) (p off : Nat) (w : Word) : (b.wrLive p off w).free = b.free := rfl
@[simp] theorem Block.wrLive_rd (b : Block) (p off : Nat) (w : Word) (q o : Nat) : (b.wrLive p off w).rd q o = b.rd q o := rfl
@[simp] theorem Block.wrLive_g (b : Block) (p off : Nat) (w : Word) (q : Nat) (g : Fld) : (b.wrLive p off w).g q g = b.g q g := rfl
@[simp] theorem Block.wrLive_on (b : Block) (p off : Nat) (w : Word) (q : Nat) (g : Fld) : (b.wrLive p off w).on q g = b.on q g := rfl

/-! ### resetPage -/

@[simp] theorem Block.resetPage_cnt (b : Block) (p : Nat) : (b.resetPage p).cnt = b.cnt := rfl
@[simp] theorem Block.resetPage_events (b : Block) (p : Nat) : (b.resetPage p).events = b.events := rfl
@[simp] theorem Block.resetPage_now (b : Block) (p : Nat) : (b.resetPage p).now = b.now := rfl
@[simp] theorem Block.resetPage_elapsed (b : Block) (p : Nat) : (b.resetPage p).elapsed = b.elapsed := rfl
@[simp] theorem Block.resetPage_tu (b : Block) (p : Nat) : (b.resetPage p).tu = b.tu := rfl
@[simp] theorem Block.resetPage_cells (b : Block) (p : Nat) : (b.resetPage p).cells = b.cells := rfl
@[simp] theorem Block.resetPage_nodes (b : Block) (p : Nat) : (b.resetPage p).nodes = b.nodes := rfl
@[simp] theorem Block.resetPage_nis (b : Block) (p : Nat) : (b.resetPage p).nis = b.nis := rfl
@[simp] theorem Block.resetPage_ports (b : Block) (p : Nat) : (b.resetPage p).ports = b.ports := rfl
@[simp] theorem Block.resetPage_csq (b : Block) (p : Nat) : (b.resetPage p).csq = b.csq := rfl
@[simp] theorem Block.resetPage_fs (b : Block) (p : Nat) : (b.resetPage p).fs = b.fs := rfl
@[simp] theorem Block.resetPage_evl (b : Block) (p : Nat) : (b.resetPage p).evl = b.evl := rfl
@[simp] theorem Block.resetPage_gt (b : Block) (p : Nat) : (b.resetPage p).gt = b.gt := rfl
@[simp] theorem Block.resetPage_mm (b : Block) (p : Nat) : (b.resetPage p).mm = b.mm := rfl
@[simp] theorem Block.resetPage_fc (b : Block) (p : Nat) : (b.resetPage p).fc = b.fc := rfl
@[simp] theorem Block.resetPage_pm (b : Block) (p : Nat) : (b.resetPage p).pm = b.pm := rfl
@[simp] theorem Block.resetPage_pr (b : Block) (p : Nat) : (b.resetPage p).pr = b.pr := rfl
@[simp] theorem Block.resetPage_stw (b : Block) (p : Nat) : (b.resetPage p).stw = b.stw := rfl
@[simp] theorem Block.resetPage_lc (b : Block) (p : Nat) : (b.resetPage p).lc = b.lc := rfl
@[simp] theorem Block.resetPage_cp (b : Block) (p : Nat) : (b.resetPage p).cp = b.cp := rfl
@[simp] theorem Block.resetPage_dbg (b : Block) (p : Nat) : (b.resetPage p).dbg = b.dbg := rfl
@[simp] theorem Block.resetPage_lastCut (b : Block) (p : Nat) : (b.resetPage p).lastCut = b.lastCut := rfl
@[simp] theorem Block.resetPage_spOut (b : Block) (p : Nat) : (b.resetPage p).spOut = b.spOut := rfl
@[simp] theorem Block.resetPage_pins (b : Block) (p : Nat) : (b.resetPage p).pins = b.pins := rfl
@[simp] theorem Block.resetPage_free (b : Block) (p : Nat) : (b.resetPage p).free = b.free := rfl

/-! ### setCounter -/

@[simp] theorem Block.setCounter_regs (b : Block) (p off : Nat) (c : Counter) : (b.setCounter p off c).regs = b.regs := rfl
@[simp] theorem Block.setCounter_live (b : Block) (p off : Nat) (c : Counter) : (b.setCounter p off c).live = b.live := rfl
@[simp] theorem Block.setCounter_events (b : Block) (p off : Nat) (c : Counter) : (b.setCounter p off c).events = b.events := rfl
@[simp] theorem Block.setCounter_now (b : Block) (p off : Nat) (c : Counter) : (b.setCounter p off c).now = b.now := rfl
@[simp] theorem Block.setCounter_elapsed (b : Block) (p off : Nat) (c : Counter) : (b.setCounter p off c).elapsed = b.elapsed := rfl
@[simp] theorem Block.setCounter_tu (b : Block) (p off : Nat) (c : Counter) : (b.setCounter p off c).tu = b.tu := rfl
@[simp] theorem Block.setCounter_cells (b : Block) (p off : Nat) (c : Counter) : (b.setCounter p off c).cells = b.cells := rfl
@[simp] theorem Block.setCounter_nodes (b : Block) (p off : Nat) (c : Counter) : (b.setCounter p off c).nodes = b.nodes := rfl
@[simp] theorem Block.setCounter_nis (b : Block) (p off : Nat) (c : Counter) : (b.setCounter p off c).nis = b.nis := rfl
@[simp] theorem Block.setCounter_ports (b : Block) (p off : Nat) (c : Counter) : (b.setCounter p off c).ports = b.ports := rfl
@[simp] theorem Block.setCounter_csq (b : Block) (p off : Nat) (c : Counter) : (b.setCounter p off c).csq = b.csq := rfl
@[simp] theorem Block.setCounter_fs (b : Block) (p off : Nat) (c : Counter) : (b.setCounter p off c).fs = b.fs := rfl
@[simp] theorem Block.setCounter_evl (b : Block) (p off : Nat) (c : Counter) : (b.setCounter p off c).evl = b.evl := rfl
@[simp] theorem Block.setCounter_gt (b : Block) (p off : Nat) (c : Counter) : (b.setCounter p off c).gt = b.gt := rfl
@[simp] theorem Block.setCounter_mm (b : Block) (p off : Nat) (c : Counter) : (b.setCounter p off c).mm = b.mm := rfl
@[simp] theorem Block.setCounter_fc (b : Block) (p off : Nat) (c : Counter) : (b.setCounter p off c).fc = b.fc := rfl
@[simp] theorem Block.setCounter_pm (b : Block) (p off : Nat) (c : Counter) : (b.setCounter p off c).pm = b.pm := rfl
@[simp] theorem Block.setCounter_pr (b : Block) (p off : Nat) (c : Counter) : (b.setCounter p off c).pr = b.pr := rfl
@[simp] theorem Block.setCounter_stw (b : Block) (p off : Nat) (c : Counter) : (b.setCounter p off c).stw = b.stw := rfl
@[simp] theorem Block.setCounter_lc (b : Block) (p off : Nat) (c : Counter) : (b.setCounter p off c).lc = b.lc := rfl
@[simp] theorem Block.setCounter_cp (b : Block) (p off : Nat) (c : Counter) : (b.setCounter p off c).cp = b.cp := rfl
@[simp] theorem Block.setCounter_dbg (b : Block) (p off : Nat) (c : Counter) : (b.setCounter p off c).dbg = b.dbg := rfl
@[simp] theorem Block.setCounter_lastCut (b : Block) (p off : Nat) (c : Counter) : (b.setCounter p off c).lastCut = b.lastCut := rfl
@[simp] theorem Block.setCounter_spOut (b : Block) (p off : Nat) (c : Counter) : (b.setCounter p off c).spOut = b.spOut := rfl
@[simp] theorem Block.setCounter_pins (b : Block) (p off : Nat) (c : Counter) : (b.setCounter p off c).pins = b.pins := rfl
@[simp] theorem Block.setCounter_free (b : Block) (p off : Nat) (c : Counter) : (b.setCounter p off c).free = b.free := rfl
@[simp] theorem Block.setCounter_rd (b : Block) (p off : Nat) (c : Counter) (q o : Nat) : (b.setCounter p off c).rd q o = b.rd q o := rfl
@[simp] theorem Block.setCounter_g (b : Block) (p off : Nat) (c : Counter) (q : Nat) (g : Fld) : (b.setCounter p off c).g q g = b.g q g := rfl
@[simp] theorem Block.setCounter_on (b : Block) (p off : Nat) (c : Counter) (q : Nat) (g : Fld) : (b.setCounter p off c).on q g = b.on q g := rfl

/-! ### setNode -/

@[simp] theorem Block.setNode_regs (b : Block) (n : Nat) (v : Node) : (b.setNode n v).regs = b.regs := rfl
@[simp] theorem Block.setNode_live (b : Block) (n : Nat) (v : Node) : (b.setNode n v).live = b.live := rfl
@[simp] theorem Block.setNode_cnt (b : Block) (n : Nat) (v : Node) : (b.setNode n v).cnt = b.cnt := rfl
@[simp] theorem Block.setNode_events (b : Block) (n : Nat) (v : Node) : (b.setNode n v).events = b.events := rfl
@[simp] theorem Block.setNode_now (b : Block) (n : Nat) (v : Node) : (b.setNode n v).now = b.now := rfl
@[simp] theorem Block.setNode_elapsed (b : Block) (n : Nat) (v : Node) : (b.setNode n v).elapsed = b.elapsed := rfl
@[simp] theorem Block.setNode_tu (b : Block) (n : Nat) (v : Node) : (b.setNode n v).tu = b.tu := rfl
@[simp] theorem Block.setNode_cells (b : Block) (n : Nat) (v : Node) : (b.setNode n v).cells = b.cells := rfl
@[simp] theorem Block.setNode_nis (b : Block) (n : Nat) (v : Node) : (b.setNode n v).nis = b.nis := rfl
@[simp] theorem Block.setNode_ports (b : Block) (n : Nat) (v : Node) : (b.setNode n v).ports = b.ports := rfl
@[simp] theorem Block.setNode_csq (b : Block) (n : Nat) (v : Node) : (b.setNode n v).csq = b.csq := rfl
@[simp] theorem Block.setNode_fs (b : Block) (n : Nat) (v : Node) : (b.setNode n v).fs = b.fs := rfl
@[simp] theorem Block.setNode_evl (b : Block) (n : Nat) (v : Node) : (b.setNode n v).evl = b.evl := rfl
@[simp] theorem Block.setNode_gt (b : Block) (n : Nat) (v : Node) : (b.setNode n v).gt = b.gt := rfl
@[simp] theorem Block.setNode_mm (b : Block) (n : Nat) (v : Node) : (b.setNode n v).mm = b.mm := rfl
@[simp] theorem Block.setNode_fc (b : Block) (n : Nat) (v : Node) : (b.setNode n v).fc = b.fc := rfl
@[simp] theorem Block.setNode_pm (b : Block) (n : Nat) (v : Node) : (b.setNode n v).pm = b.pm := rfl
@[simp] theorem Block.setNode_pr (b : Block) (n : Nat) (v : Node) : (b.setNode n v).pr = b.pr := rfl
@[simp] theorem Block.setNode_stw (b : Block) (n : Nat) (v : Node) : (b.setNode n v).stw = b.stw := rfl
@[simp] theorem Block.setNode_lc (b : Block) (n : Nat) (v : Node) : (b.setNode n v).lc = b.lc := rfl
@[simp] theorem Block.setNode_cp (b : Block) (n : Nat) (v : Node) : (b.setNode n v).cp = b.cp := rfl
@[simp] theorem Block.setNode_dbg (b : Block) (n : Nat) (v : Node) : (b.setNode n v).dbg = b.dbg := rfl
@[simp] theorem Block.setNode_lastCut (b : Block) (n : Nat) (v : Node) : (b.setNode n v).lastCut = b.lastCut := rfl
@[simp] theorem Block.setNode_spOut (b : Block) (n : Nat) (v : Node) : (b.setNode n v).spOut = b.spOut := rfl
@[simp] theorem Block.setNode_pins (b : Block) (n : Nat) (v : Node) : (b.setNode n v).pins = b.pins := rfl
@[simp] theorem Block.setNode_free (b : Block) (n : Nat) (v : Node) : (b.setNode n v).free = b.free := rfl
@[simp] theorem Block.setNode_rd (b : Block) (n : Nat) (v : Node) (q o : Nat) : (b.setNode n v).rd q o = b.rd q o := rfl
@[simp] theorem Block.setNode_g (b : Block) (n : Nat) (v : Node) (q : Nat) (g : Fld) : (b.setNode n v).g q g = b.g q g := rfl
@[simp] theorem Block.setNode_on (b : Block) (n : Nat) (v : Node) (q : Nat) (g : Fld) : (b.setNode n v).on q g = b.on q g := rfl

/-! ### modNode -/

@[simp] theorem Block.modNode_regs (b : Block) (n : Nat) (f : Node → Node) : (b.modNode n f).regs = b.regs := rfl
@[simp] theorem Block.modNode_live (b : Block) (n : Nat) (f : Node → Node) : (b.modNode n f).live = b.live := rfl
@[simp] theorem Block.modNode_cnt (b : Block) (n : Nat) (f : Node → Node) : (b.modNode n f).cnt = b.cnt := rfl
@[simp] theorem Block.modNode_events (b : Block) (n : Nat) (f : Node → Node) : (b.modNode n f).events = b.events := rfl
@[simp] theorem Block.modNode_now (b : Block) (n : Nat) (f : Node → Node) : (b.modNode n f).now = b.now := rfl
@[simp] theorem Block.modNode_elapsed (b : Block) (n : Nat) (f : Node → Node) : (b.modNode n f).elapsed = b.elapsed := rfl
@[simp] theorem Block.modNode_tu (b : Block) (n : Nat) (f : Node → Node) : (b.modNode n f).tu = b.tu := rfl
@[simp] theorem Block.modNode_cells (b : Block) (n : Nat) (f : Node → Node) : (b.modNode n f).cells = b.cells := rfl
@[simp] theorem Block.modNode_nis (b : Block) (n : Nat) (f : Node → Node) : (b.modNode n f).nis = b.nis := rfl
@[simp] theorem Block.modNode_ports (b : Block) (n : Nat) (f : Node → Node) : (b.modNode n f).ports = b.ports := rfl
@[simp] theorem Block.modNode_csq (b : Block) (n : Nat) (f : Node → Node) : (b.modNode n f).csq = b.csq := rfl
@[simp] theorem Block.modNode_fs (b : Block) (n : Nat) (f : Node → Node) : (b.modNode n f).fs = b.fs := rfl
@[simp] theorem Block.modNode_evl (b : Block) (n : Nat) (f : Node → Node) : (b.modNode n f).evl = b.evl := rfl
@[simp] theorem Block.modNode_gt (b : Block) (n : Nat) (f : Node → Node) : (b.modNode n f).gt = b.gt := rfl
@[simp] theorem Block.modNode_mm (b : Block) (n : Nat) (f : Node → Node) : (b.modNode n f).mm = b.mm := rfl
@[simp] theorem Block.modNode_fc (b : Block) (n : Nat) (f : Node → Node) : (b.modNode n f).fc = b.fc := rfl
@[simp] theorem Block.modNode_pm (b : Block) (n : Nat) (f : Node → Node) : (b.modNode n f).pm = b.pm := rfl
@[simp] theorem Block.modNode_pr (b : Block) (n : Nat) (f : Node → Node) : (b.modNode n f).pr = b.pr := rfl
@[simp] theorem Block.modNode_stw (b : Block) (n : Nat) (f : Node → Node) : (b.modNode n f).stw = b.stw := rfl
@[simp] theorem Block.modNode_lc (b : Block) (n : Nat) (f : Node → Node) : (b.modNode n f).lc = b.lc := rfl
@[simp] theorem Block.modNode_cp (b : Block) (n : Nat) (f : Node → Node) : (b.modNode n f).cp = b.cp := rfl
@[simp] theorem Block.modNode_dbg (b : Block) (n : Nat) (f : Node → Node) : (b.modNode n f).dbg = b.dbg := rfl
@[simp] theorem Block.modNode_lastCut (b : Block) (n : Nat) (f : Node → Node) : (b.modNode n f).lastCut = b.lastCut := rfl
@[simp] theorem Block.modNode_spOut (b : Block) (n : Nat) (f : Node → Node) : (b.modNode n f).spOut = b.spOut := rfl
@[simp] theorem Block.modNode_pins (b : Block) (n : Nat) (f : Node → Node) : (b.modNode n f).pins = b.pins := rfl
@[simp] theorem Block.modNode_free (b : Block) (n : Nat) (f : Node → Node) : (b.modNode n f).free = b.free := rfl
@[simp] theorem Block.modNode_rd (b : Block) (n : Nat) (f : Node → Node) (q o : Nat) : (b.modNode n f).rd q o = b.rd q o := rfl
@[simp] theorem Block.modNode_g (b : Block) (n : Nat) (f : Node → Node) (q : Nat) (g : Fld) : (b.modNode n f).g q g = b.g q g := rfl
@[simp] theorem Block.modNode_on (b : Block) (n : Nat) (f : Node → Node) (q : Nat) (g : Fld) : (b.modNode n f).on q g = b.on q g := rfl

/-! ### setNi -/

@[simp] theorem Block.setNi_regs (b : Block) (i : Nat) (v : Ni) : (b.setNi i v).regs = b.regs := rfl
@[simp] theorem Block.setNi_live (b : Block) (i : Nat) (v : Ni) : (b.setNi i v).live = b.live := rfl
@[simp] theorem Block.setNi_cnt (b : Block) (i : Nat) (v : Ni) : (b.setNi i v).cnt = b.cnt := rfl
@[simp] theorem Block.setNi_events (b : Block) (i : Nat) (v : Ni) : (b.setNi i v).events = b.events := rfl
@[simp] theorem Block.setNi_now (b : Block) (i : Nat) (v : Ni) : (b.setNi i v).now = b.now := rfl
@[simp] theorem Block.setNi_elapsed (b : Block) (i : Nat) (v : Ni) : (b.setNi i v).elapsed = b.elapsed := rfl
@[simp] theorem Block.setNi_tu (b : Block) (i : Nat) (v : Ni) : (b.setNi i v).tu = b.tu := rfl
@[simp] theorem Block.setNi_cells (b : Block) (i : Nat) (v : Ni) : (b.setNi i v).cells = b.cells := rfl
@[simp] theorem Block.setNi_nodes (b : Block) (i : Nat) (v : Ni) : (b.setNi i v).nodes = b.nodes := rfl
@[simp] theorem Block.setNi_ports (b : Block) (i : Nat) (v : Ni) : (b.setNi i v).ports = b.ports := rfl
@[simp] theorem Block.setNi_csq (b : Block) (i : Nat) (v : Ni) : (b.setNi i v).csq = b.csq := rfl
@[simp] theorem Block.setNi_fs (b : Block) (i : Nat) (v : Ni) : (b.setNi i v).fs = b.fs := rfl
@[simp] theorem Block.setNi_evl (b : Block) (i : Nat) (v : Ni) : (b.setNi i v).evl = b.evl := rfl
@[simp] theorem Block.setNi_gt (b : Block) (i : Nat) (v : Ni) : (b.setNi i v).gt = b.gt := rfl
@[simp] theorem Block.setNi_mm (b : Block) (i : Nat) (v : Ni) : (b.setNi i v).mm = b.mm := rfl
@[simp] theorem Block.setNi_fc (b : Block) (i : Nat) (v : Ni) : (b.setNi i v).fc = b.fc := rfl
@[simp] theorem Block.setNi_pm (b : Block) (i : Nat) (v : Ni) : (b.setNi i v).pm = b.pm := rfl
@[simp] theorem Block.setNi_pr (b : Block) (i : Nat) (v : Ni) : (b.setNi i v).pr = b.pr := rfl
@[simp] theorem Block.setNi_stw (b : Block) (i : Nat) (v : Ni) : (b.setNi i v).stw = b.stw := rfl
@[simp] theorem Block.setNi_lc (b : Block) (i : Nat) (v : Ni) : (b.setNi i v).lc = b.lc := rfl
@[simp] theorem Block.setNi_cp (b : Block) (i : Nat) (v : Ni) : (b.setNi i v).cp = b.cp := rfl
@[simp] theorem Block.setNi_dbg (b : Block) (i : Nat) (v : Ni) : (b.setNi i v).dbg = b.dbg := rfl
@[simp] theorem Block.setNi_lastCut (b : Block) (i : Nat) (v : Ni) : (b.setNi i v).lastCut = b.lastCut := rfl
@[simp] theorem Block.setNi_spOut (b : Block) (i : Nat) (v : Ni) : (b.setNi i v).spOut = b.spOut := rfl
@[simp] theorem Block.setNi_pins (b : Block) (i : Nat) (v : Ni) : (b.setNi i v).pins = b.pins := rfl
@[simp] theorem Block.setNi_free (b : Block) (i : Nat) (v : Ni) : (b.setNi i v).free = b.free := rfl
@[simp] theorem Block.setNi_rd (b : Block) (i : Nat) (v : Ni) (q o : Nat) : (b.setNi i v).rd q o = b.rd q o := rfl
@[simp] theorem Block.setNi_g (b : Block) (i : Nat) (v : Ni) (q : Nat) (g : Fld) : (b.setNi i v).g q g = b.g q g := rfl
@[simp] theorem Block.setNi_on (b : Block) (i : Nat) (v : Ni) (q : Nat) (g : Fld) : (b.setNi i v).on q g = b.on q g := rfl

/-! ### modNi -/

@[simp] theorem Block.modNi_regs (b : Block) (i : Nat) (f : Ni → Ni) : (b.modNi i f).regs = b.regs := rfl
@[simp] theorem Block.modNi_live (b : Block) (i : Nat) (f : Ni → Ni) : (b.modNi i f).live = b.live := rfl
@[simp] theorem Block.modNi_cnt (b : Block) (i : Nat) (f : Ni → Ni) : (b.modNi i f).cnt = b.cnt := rfl
@[simp] theorem Block.modNi_events (b : Block) (i : Nat) (f : Ni → Ni) : (b.modNi i f).events = b.events := rfl
@[simp] theorem Block.modNi_now (b : Block) (i : Nat) (f : Ni → Ni) : (b.modNi i f).now = b.now := rfl
@[simp] theorem Block.modNi_elapsed (b : Block) (i : Nat) (f : Ni → Ni) : (b.modNi i f).elapsed = b.elapsed := rfl
@[simp] theorem Block.modNi_tu (b : Block) (i : Nat) (f : Ni → Ni) : (b.modNi i f).tu = b.tu := rfl
@[simp] theorem Block.modNi_cells (b : Block) (i : Nat) (f : Ni → Ni) : (b.modNi i f).cells = b.cells := rfl
@[simp] theorem Block.modNi_nodes (b : Block) (i : Nat) (f : Ni → Ni) : (b.modNi i f).nodes = b.nodes := rfl
@[simp] theorem Block.modNi_ports (b : Block) (i : Nat) (f : Ni → Ni) : (b.modNi i f).ports = b.ports := rfl
@[simp] theorem Block.modNi_csq (b : Block) (i : Nat) (f : Ni → Ni) : (b.modNi i f).csq = b.csq := rfl
@[simp] theorem Block.modNi_fs (b : Block) (i : Nat) (f : Ni → Ni) : (b.modNi i f).fs = b.fs := rfl
@[simp] theorem Block.modNi_evl (b : Block) (i : Nat) (f : Ni → Ni) : (b.modNi i f).evl = b.evl := rfl
@[simp] theorem Block.modNi_gt (b : Block) (i : Nat) (f : Ni → Ni) : (b.modNi i f).gt = b.gt := rfl
@[simp] theorem Block.modNi_mm (b : Block) (i : Nat) (f : Ni → Ni) : (b.modNi i f).mm = b.mm := rfl
@[simp] theorem Block.modNi_fc (b : Block) (i : Nat) (f : Ni → Ni) : (b.modNi i f).fc = b.fc := rfl
@[simp] theorem Block.modNi_pm (b : Block) (i : Nat) (f : Ni → Ni) : (b.modNi i f).pm = b.pm := rfl
@[simp] theorem Block.modNi_pr (b : Block) (i : Nat) (f : Ni → Ni) : (b.modNi i f).pr = b.pr := rfl
@[simp] theorem Block.modNi_stw (b : Block) (i : Nat) (f : Ni → Ni) : (b.modNi i f).stw = b.stw := rfl
@[simp] theorem Block.modNi_lc (b : Block) (i : Nat) (f : Ni → Ni) : (b.modNi i f).lc = b.lc := rfl
@[simp] theorem Block.modNi_cp (b : Block) (i : Nat) (f : Ni → Ni) : (b.modNi i f).cp = b.cp := rfl
@[simp] theorem Block.modNi_dbg (b : Block) (i : Nat) (f : Ni → Ni) : (b.modNi i f).dbg = b.dbg := rfl
@[simp] theorem Block.modNi_lastCut (b : Block) (i : Nat) (f : Ni → Ni) : (b.modNi i f).lastCut = b.lastCut := rfl
@[simp] theorem Block.modNi_spOut (b : Block) (i : Nat) (f : Ni → Ni) : (b.modNi i f).spOut = b.spOut := rfl
@[simp] theorem Block.modNi_pins (b : Block) (i : Nat) (f : Ni → Ni) : (b.modNi i f).pins = b.pins := rfl
@[simp] theorem Block.modNi_free (b : Block) (i : Nat) (f : Ni → Ni) : (b.modNi i f).free = b.free := rfl
@[simp] theorem Block.modNi_rd (b : Block) (i : Nat) (f : Ni → Ni) (q o : Nat) : (b.modNi i f).rd q o = b.rd q o := rfl
@[simp] theorem Block.modNi_g (b : Block) (i : Nat) (f : Ni → Ni) (q : Nat) (g : Fld) : (b.modNi i f).g q g = b.g q g := rfl
@[simp] theorem Block.modNi_on (b : Block) (i : Nat) (f : Ni → Ni) (q : Nat) (g : Fld) : (b.modNi i f).on q g = b.on q g := rfl

/-! ### modRec -/

@[simp] theorem Block.modRec_regs (b : Block) (i k : Nat) (f : CRec → CRec) : (b.modRec i k f).regs = b.regs := rfl
@[simp] theorem Block.modRec_live (b : Block) (i k : Nat) (f : CRec → CRec) : (b.modRec i k f).live = b.live := rfl
@[simp] theorem Block.modRec_cnt (b : Block) (i k : Nat) (f : CRec → CRec) : (b.modRec i k f).cnt = b.cnt := rfl
@[simp] theorem Block.modRec_events (b : Block) (i k : Nat) (f : CRec → CRec) : (b.modRec i k f).events = b.events := rfl
@[simp] theorem Block.modRec_now (b : Block) (i k : Nat) (f : CRec → CRec) : (b.modRec i k f).now = b.now := rfl
@[simp] theorem Block.modRec_elapsed (b : Block) (i k : Nat) (f : CRec → CRec) : (b.modRec i k f).elapsed = b.elapsed := rfl
@[simp] theorem Block.modRec_tu (b : Block) (i k : Nat) (f : CRec → CRec) : (b.modRec i k f).tu = b.tu := rfl
@[simp] theorem Block.modRec_cells (b : Block) (i k : Nat) (f : CRec → CRec) : (b.modRec i k f).cells = b.cells := rfl
@[simp] theorem Block.modRec_nodes (b : Block) (i k : Nat) (f : CRec → CRec) : (b.modRec i k f).nodes = b.nodes := rfl
@[simp] theorem Block.modRec_ports (b : Block) (i k : Nat) (f : CRec → CRec) : (b.modRec i k f).ports = b.ports := rfl
@[simp] theorem Block.modRec_csq (b : Block) (i k : Nat) (f : CRec → CRec) : (b.modRec i k f).csq = b.csq := rfl
@[simp] theorem Block.modRec_fs (b : Block) (i k : Nat) (f : CRec → CRec) : (b.modRec i k f).fs = b.fs := rfl
@[simp] theorem Block.modRec_evl (b : Block) (i k : Nat) (f : CRec → CRec) : (b.modRec i k f).evl = b.evl := rfl
@[simp] theorem Block.modRec_gt (b : Block) (i k : Nat) (f : CRec → CRec) : (b.modRec i k f).gt = b.gt := rfl
@[simp] theorem Block.modRec_mm (b : Block) (i k : Nat) (f : CRec → CRec) : (b.modRec i k f).mm = b.mm := rfl
@[simp] theorem Block.modRec_fc (b : Block) (i k : Nat) (f : CRec → CRec) : (b.modRec i k f).fc = b.fc := rfl
@[simp] theorem Block.modRec_pm (b : Block) (i k : Nat) (f : CRec → CRec) : (b.modRec i k f).pm = b.pm := rfl
@[simp] theorem Block.modRec_pr (b : Block) (i k : Nat) (f : CRec → CRec) : (b.modRec i k f).pr = b.pr := rfl
@[simp] theorem Block.modRec_stw (b : Block) (i k : Nat) (f : CRec → CRec) : (b.modRec i k f).stw = b.stw := rfl
@[simp] theorem Block.modRec_lc (b : Block) (i k : Nat) (f : CRec → CRec) : (b.modRec i k f).lc = b.lc := rfl
@[simp] theorem Block.modRec_cp (b : Block) (i k : Nat) (f : CRec → CRec) : (b.modRec i k f).cp = b.cp := rfl
@[simp] theorem Block.modRec_dbg (b : Block) (i k : Nat) (f : CRec → CRec) : (b.modRec i k f).dbg = b.dbg := rfl
@[simp] theorem Block.modRec_lastCut (b : Block) (i k : Nat) (f : CRec → CRec) : (b.modRec i k f).lastCut = b.lastCut := rfl
@[simp] theorem Block.modRec_spOut (b : Block) (i k : Nat) (f : CRec → CRec) : (b.modRec i k f).spOut = b.spOut := rfl
@[simp] theorem Block.modRec_pins (b : Block) (i k : Nat) (f : CRec → CRec) : (b.modRec i k f).pins = b.pins := rfl
@[simp] theorem Block.modRec_free (b : Block) (i k : Nat) (f : CRec → CRec) : (b.modRec i k f).free = b.free := rfl
@[simp] theorem Block.modRec_rd (b : Block) (i k : Nat) (f : CRec → CRec) (q o : Nat) : (b.modRec i k f).rd q o = b.rd q o := rfl
@[simp] theorem Block.modRec_g (b : Block) (i k : Nat) (f : CRec → CRec) (q : Nat) (g : Fld) : (b.modRec i k f).g q g = b.g q g := rfl
@[simp] theorem Block.modRec_on (b : Block) (i k : Nat) (f : CRec → CRec) (q : Nat) (g : Fld) : (b.modRec i k f).on q g = b.on q g := rfl

/-! ### modCell -/

@[simp] theorem Block.modCell_regs (b : Block) (n : Nat) (f : Cell → Cell) : (b.modCell n f).regs = b.regs := rfl
@[simp] theorem Block.modCell_live (b : Block) (n : Nat) (f : Cell → Cell) : (b.modCell n f).live = b.live := rfl
@[simp] theorem Block.modCell_cnt (b : Block) (n : Nat) (f : Cell → Cell) : (b.modCell n f).cnt = b.cnt := rfl
@[simp] theorem Block.modCell_events (b : Block) (n : Nat) (f : Cell → Cell) : (b.modCell n f).events = b.events := rfl
@[simp] theorem Block.modCell_now (b : Block) (n : Nat) (f : Cell → Cell) : (b.modCell n f).now = b.now := rfl
@[simp] theorem Block.modCell_elapsed (b : Block) (n : Nat) (f : Cell → Cell) : (b.modCell n f).elapsed = b.elapsed := rfl
@[simp] theorem Block.modCell_tu (b : Block) (n : Nat) (f : Cell → Cell) : (b.modCell n f).tu = b.tu := rfl
@[simp] theorem Block.modCell_nodes (b : Block) (n : Nat) (f : Cell → Cell) : (b.modCell n f).nodes = b.nodes := rfl
@[simp] theorem Block.modCell_nis (b : Block) (n : Nat) (f : Cell → Cell) : (b.modCell n f).nis = b.nis := rfl
@[simp] theorem Block.modCell_ports (b : Block) (n : Nat) (f : Cell → Cell) : (b.modCell n f).ports = b.ports := rfl
@[simp] theorem Block.modCell_csq (b : Block) (n : Nat) (f : Cell → Cell) : (b.modCell n f).csq = b.csq := rfl
@[simp] theorem Block.modCell_fs (b : Block) (n : Nat) (f : Cell → Cell) : (b.modCell n f).fs = b.fs := rfl
@[simp] theorem Block.modCell_evl (b : Block) (n : Nat) (f : Cell → Cell) : (b.modCell n f).evl = b.evl := rfl
@[simp] theorem Block.modCell_gt (b : Block) (n : Nat) (f : Cell → Cell) : (b.modCell n f).gt = b.gt := rfl
@[simp] theorem Block.modCell_mm (b : Block) (n : Nat) (f : Cell → Cell) : (b.modCell n f).mm = b.mm := rfl
@[simp] theorem Block.modCell_fc (b : Block) (n : Nat) (f : Cell → Cell) : (b.modCell n f).fc = b.fc := rfl
@[simp] theorem Block.modCell_pm (b : Block) (n : Nat) (f : Cell → Cell) : (b.modCell n f).pm = b.pm := rfl
@[simp] theorem Block.modCell_pr (b : Block) (n : Nat) (f : Cell → Cell) : (b.modCell n f).pr = b.pr := rfl
@[simp] theorem Block.modCell_stw (b : Block) (n : Nat) (f : Cell → Cell) : (b.modCell n f).stw = b.stw := rfl
@[simp] theorem Block.modCell_lc (b : Block) (n : Nat) (f : Cell → Cell) : (b.modCell n f).lc = b.lc := rfl
@[simp] theorem Block.modCell_cp (b : Block) (n : Nat) (f : Cell → Cell) : (b.modCell n f).cp = b.cp := rfl
@[simp] theorem Block.modCell_dbg (b : Block) (n : Nat) (f : Cell → Cell) : (b.modCell n f).dbg = b.dbg := rfl
@[simp] theorem Block.modCell_lastCut (b : Block) (n : Nat) (f : Cell → Cell) : (b.modCell n f).lastCut = b.lastCut := rfl
@[simp] theorem Block.modCell_spOut (b : Block) (n : Nat) (f : Cell → Cell) : (b.modCell n f).spOut = b.spOut := rfl
@[simp] theorem Block.modCell_pins (b : Block) (n : Nat) (f : Cell → Cell) : (b.modCell n f).pins = b.pins := rfl
@[simp] theorem Block.modCell_free (b : Block) (n : Nat) (f : Cell → Cell) : (b.modCell n f).free = b.free := rfl
@[simp] theorem Block.modCell_rd (b : Block) (n : Nat) (f : Cell → Cell) (q o : Nat) : (b.modCell n f).rd q o = b.rd q o := rfl
@[simp] theorem Block.modCell_g (b : Block) (n : Nat) (f : Cell → Cell) (q : Nat) (g : Fld) : (b.modCell n f).g q g = b.g q g := rfl
@[simp] theorem Block.modCell_on (b : Block) (n : Nat) (f : Cell → Cell) (q : Nat) (g : Fld) : (b.modCell n f).on q g = b.on q g := rfl

/-! ### modSlot -/

@[simp] theorem Block.modSlot_regs (b : Block) (k : Nat) (f : Slot → Slot) : (b.modSlot k f).regs = b.regs := rfl
@[simp] theorem Block.modSlot_live (b : Block) (k : Nat) (f : Slot → Slot) : (b.modSlot k f).live = b.live := rfl
@[simp] theorem Block.modSlot_cnt (b : Block) (k : Nat) (f : Slot → Slot) : (b.modSlot k f).cnt = b.cnt := rfl
@[simp] theorem Block.modSlot_events (b : Block) (k : Nat) (f : Slot → Slot) : (b.modSlot k f).events = b.events := rfl
@[simp] theorem Block.modSlot_now (b : Block) (k : Nat) (f : Slot → Slot) : (b.modSlot k f).now = b.now := rfl
@[simp] theorem Block.modSlot_elapsed (b : Block) (k : Nat) (f : Slot → Slot) : (b.modSlot k f).elapsed = b.elapsed := rfl
@[simp] theorem Block.modSlot_tu (b : Block) (k : Nat) (f : Slot → Slot) : (b.modSlot k f).tu = b.tu := rfl
@[simp] theorem Block.modSlot_cells (b : Block) (k : Nat) (f : Slot → Slot) : (b.modSlot k f).cells = b.cells := rfl
@[simp] theorem Block.modSlot_nodes (b : Block) (k : Nat) (f : Slot → Slot) : (b.modSlot k f).nodes = b.nodes := rfl
@[simp] theorem Block.modSlot_nis (b : Block) (k : Nat) (f : Slot → Slot) : (b.modSlot k f).nis = b.nis := rfl
@[simp] theorem Block.modSlot_ports (b : Block) (k : Nat) (f : Slot → Slot) : (b.modSlot k f).ports = b.ports := rfl
@[simp] theorem Block.modSlot_fs (b : Block) (k : Nat) (f : Slot → Slot) : (b.modSlot k f).fs = b.fs := rfl
@[simp] theorem Block.modSlot_evl (b : Block) (k : Nat) (f : Slot → Slot) : (b.modSlot k f).evl = b.evl := rfl
@[simp] theorem Block.modSlot_gt (b : Block) (k : Nat) (f : Slot → Slot) : (b.modSlot k f).gt = b.gt := rfl
@[simp] theorem Block.modSlot_mm (b : Block) (k : Nat) (f : Slot → Slot) : (b.modSlot k f).mm = b.mm := rfl
@[simp] theorem Block.modSlot_fc (b : Block) (k : Nat) (f : Slot → Slot) : (b.modSlot k f).fc = b.fc := rfl
@[simp] theorem Block.modSlot_pm (b : Block) (k : Nat) (f : Slot → Slot) : (b.modSlot k f).pm = b.pm := rfl
@[simp] theorem Block.modSlot_pr (b : Block) (k : Nat) (f : Slot → Slot) : (b.modSlot k f).pr = b.pr := rfl
@[simp] theorem Block.modSlot_stw (b : Block) (k : Nat) (f : Slot → Slot) : (b.modSlot k f).stw = b.stw := rfl
@[simp] theorem Block.modSlot_lc (b : Block) (k : Nat) (f : Slot → Slot) : (b.modSlot k f).lc = b.lc := rfl
@[simp] theorem Block.modSlot_cp (b : Block) (k : Nat) (f : Slot → Slot) : (b.modSlot k f).cp = b.cp := rfl
@[simp] theorem Block.modSlot_dbg (b : Block) (k : Nat) (f : Slot → Slot) : (b.modSlot k f).dbg = b.dbg := rfl
@[simp] theorem Block.modSlot_lastCut (b : Block) (k : Nat) (f : Slot → Slot) : (b.modSlot k f).lastCut = b.lastCut := rfl
@[simp] theorem Block.modSlot_spOut (b : Block) (k : Nat) (f : Slot → Slot) : (b.modSlot k f).spOut = b.spOut := rfl
@[simp] theorem Block.modSlot_pins (b : Block) (k : Nat) (f : Slot → Slot) : (b.modSlot k f).pins = b.pins := rfl
@[simp] theorem Block.modSlot_free (b : Block) (k : Nat) (f : Slot → Slot) : (b.modSlot k f).free = b.free := rfl
@[simp] theorem Block.modSlot_rd (b : Block) (k : Nat) (f : Slot → Slot) (q o : Nat) : (b.modSlot k f).rd q o = b.rd q o := rfl
@[simp] theorem Block.modSlot_g (b : Block) (k : Nat) (f : Slot → Slot) (q : Nat) (g : Fld) : (b.modSlot k f).g q g = b.g q g := rfl
@[simp] theorem Block.modSlot_on (b : Block) (k : Nat) (f : Slot → Slot) (q : Nat) (g : Fld) : (b.modSlot k f).on q g = b.on q g := rfl

/-! ### modFs -/

@[simp] theorem Block.modFs_regs (b : Block) (k : Nat) (f : Fs → Fs) : (b.modFs k f).regs = b.regs := rfl
@[simp] theorem Block.modFs_live (b : Block) (k : Nat) (f : Fs → Fs) : (b.modFs k f).live = b.live := rfl
@[simp] theorem Block.modFs_cnt (b : Block) (k : Nat) (f : Fs → Fs) : (b.modFs k f).cnt = b.cnt := rfl
@[simp] theorem Block.modFs_events (b : Block) (k : Nat) (f : Fs → Fs) : (b.modFs k f).events = b.events := rfl
@[simp] theorem Block.modFs_now (b : Block) (k : Nat) (f : Fs → Fs) : (b.modFs k f).now = b.now := rfl
@[simp] theorem Block.modFs_elapsed (b : Block) (k : Nat) (f : Fs → Fs) : (b.modFs k f).elapsed = b.elapsed := rfl
@[simp] theorem Block.modFs_tu (b : Block) (k : Nat) (f : Fs → Fs) : (b.modFs k f).tu = b.tu := rfl
@[simp] theorem Block.modFs_cells (b : Block) (k : Nat) (f : Fs → Fs) : (b.modFs k f).cells = b.cells := rfl
@[simp] theorem Block.modFs_nodes (b : Block) (k : Nat) (f : Fs → Fs) : (b.modFs k f).nodes = b.nodes := rfl
@[simp] theorem Block.modFs_nis (b : Block) (k : Nat) (f : Fs → Fs) : (b.modFs k f).nis = b.nis := rfl
@[simp] theorem Block.modFs_ports (b : Block) (k : Nat) (f : Fs → Fs) : (b.modFs k f).ports = b.ports := rfl
@[simp] theorem Block.modFs_csq (b : Block) (k : Nat) (f : Fs → Fs) : (b.modFs k f).csq = b.csq := rfl
@[simp] theorem Block.modFs_evl (b : Block) (k : Nat) (f : Fs → Fs) : (b.modFs k f).evl = b.evl := rfl
@[simp] theorem Block.modFs_gt (b : Block) (k : Nat) (f : Fs → Fs) : (b.modFs k f).gt = b.gt := rfl
@[simp] theorem Block.modFs_mm (b : Block) (k : Nat) (f : Fs → Fs) : (b.modFs k f).mm = b.mm := rfl
@[simp] theorem Block.modFs_fc (b : Block) (k : Nat) (f : Fs → Fs) : (b.modFs k f).fc = b.fc := rfl
@[simp] theorem Block.modFs_pm (b : Block) (k : Nat) (f : Fs → Fs) : (b.modFs k f).pm = b.pm := rfl
@[simp] theorem Block.modFs_pr (b : Block) (k : Nat) (f : Fs → Fs) : (b.modFs k f).pr = b.pr := rfl
@[simp] theorem Block.modFs_stw (b : Block) (k : Nat) (f : Fs → Fs) : (b.modFs k f).stw = b.stw := rfl
@[simp] theorem Block.modFs_lc (b : Block) (k : Nat) (f : Fs → Fs) : (b.modFs k f).lc = b.lc := rfl
@[simp] theorem Block.modFs_cp (b : Block) (k : Nat) (f : Fs → Fs) : (b.modFs k f).cp = b.cp := rfl
@[simp] theorem Block.modFs_dbg (b : Block) (k : Nat) (f : Fs → Fs) : (b.modFs k f).dbg = b.dbg := rfl
@[simp] theorem Block.modFs_lastCut (b : Block) (k : Nat) (f : Fs → Fs) : (b.modFs k f).lastCut = b.lastCut := rfl
@[simp] theorem Block.modFs_spOut (b : Block) (k : Nat) (f : Fs → Fs) : (b.modFs k f).spOut = b.spOut := rfl
@[simp] theorem Block.modFs_pins (b : Block) (k : Nat) (f : Fs → Fs) : (b.modFs k f).pins = b.pins := rfl
@[simp] theorem Block.modFs_free (b : Block) (k : Nat) (f : Fs → Fs) : (b.modFs k f).free = b.free := rfl
@[simp] theorem Block.modFs_rd (b : Block) (k : Nat) (f : Fs → Fs) (q o : Nat) : (b.modFs k f).rd q o = b.rd q o := rfl
@[simp] theorem Block.modFs_g (b : Block) (k : Nat) (f : Fs → Fs) (q : Nat) (g : Fld) : (b.modFs k f).g q g = b.g q g := rfl
@[simp] theorem Block.modFs_on (b : Block) (k : Nat) (f : Fs → Fs) (q : Nat) (g : Fld) : (b.modFs k f).on q g = b.on q g := rfl

/-! ### modDom -/

@[simp] theorem Block.modDom_regs (b : Block) (d : Nat) (f : Dom → Dom) : (b.modDom d f).regs = b.regs := rfl
@[simp] theorem Block.modDom_live (b : Block) (d : Nat) (f : Dom → Dom) : (b.modDom d f).live = b.live := rfl
@[simp] theorem Block.modDom_cnt (b : Block) (d : Nat) (f : Dom → Dom) : (b.modDom d f).cnt = b.cnt := rfl
@[simp] theorem Block.modDom_events (b : Block) (d : Nat) (f : Dom → Dom) : (b.modDom d f).events = b.events := rfl
@[simp] theorem Block.modDom_now (b : Block) (d : Nat) (f : Dom → Dom) : (b.modDom d f).now = b.now := rfl
@[simp] theorem Block.modDom_elapsed (b : Block) (d : Nat) (f : Dom → Dom) : (b.modDom d f).elapsed = b.elapsed := rfl
@[simp] theorem Block.modDom_tu (b : Block) (d : Nat) (f : Dom → Dom) : (b.modDom d f).tu = b.tu := rfl
@[simp] theorem Block.modDom_cells (b : Block) (d : Nat) (f : Dom → Dom) : (b.modDom d f).cells = b.cells := rfl
@[simp] theorem Block.modDom_nodes (b : Block) (d : Nat) (f : Dom → Dom) : (b.modDom d f).nodes = b.nodes := rfl
@[simp] theorem Block.modDom_nis (b : Block) (d : Nat) (f : Dom → Dom) : (b.modDom d f).nis = b.nis := rfl
@[simp] theorem Block.modDom_ports (b : Block) (d : Nat) (f : Dom → Dom) : (b.modDom d f).ports = b.ports := rfl
@[simp] theorem Block.modDom_csq (b : Block) (d : Nat) (f : Dom → Dom) : (b.modDom d f).csq = b.csq := rfl
@[simp] theorem Block.modDom_fs (b : Block) (d : Nat) (f : Dom → Dom) : (b.modDom d f).fs = b.fs := rfl
@[simp] theorem Block.modDom_evl (b : Block) (d : Nat) (f : Dom → Dom) : (b.modDom d f).evl = b.evl := rfl
@[simp] theorem Block.modDom_gt (b : Block) (d : Nat) (f : Dom → Dom) : (b.modDom d f).gt = b.gt := rfl
@[simp] theorem Block.modDom_mm (b : Block) (d : Nat) (f : Dom → Dom) : (b.modDom d f).mm = b.mm := rfl
@[simp] theorem Block.modDom_fc (b : Block) (d : Nat) (f : Dom → Dom) : (b.modDom d f).fc = b.fc := rfl
@[simp] theorem Block.modDom_pr (b : Block) (d : Nat) (f : Dom → Dom) : (b.modDom d f).pr = b.pr := rfl
@[simp] theorem Block.modDom_stw (b : Block) (d : Nat) (f : Dom → Dom) : (b.modDom d f).stw = b.stw := rfl
@[simp] theorem Block.modDom_lc (b : Block) (d : Nat) (f : Dom → Dom) : (b.modDom d f).lc = b.lc := rfl
@[simp] theorem Block.modDom_cp (b : Block) (d : Nat) (f : Dom → Dom) : (b.modDom d f).cp = b.cp := rfl
@[simp] theorem Block.modDom_dbg (b : Block) (d : Nat) (f : Dom → Dom) : (b.modDom d f).dbg = b.dbg := rfl
@[simp] theorem Block.modDom_lastCut (b : Block) (d : Nat) (f : Dom → Dom) : (b.modDom d f).lastCut = b.lastCut := rfl
@[simp] theorem Block.modDom_spOut (b : Block) (d : Nat) (f : Dom → Dom) : (b.modDom d f).spOut = b.spOut := rfl
@[simp] theorem Block.modDom_pins (b : Block) (d : Nat) (f : Dom → Dom) : (b.modDom d f).pins = b.pins := rfl
@[simp] theorem Block.modDom_free (b : Block) (d : Nat) (f : Dom → Dom) : (b.modDom d f).free = b.free := rfl
@[simp] theorem Block.modDom_rd (b : Block) (d : Nat) (f : Dom → Dom) (q o : Nat) : (b.modDom d f).rd q o = b.rd q o := rfl
@[simp] theorem Block.modDom_g (b : Block) (d : Nat) (f : Dom → Dom) (q : Nat) (g : Fld) : (b.modDom d f).g q g = b.g q g := rfl
@[simp] theorem Block.modDom_on (b : Block) (d : Nat) (f : Dom → Dom) (q : Nat) (g : Fld) : (b.modDom d f).on q g = b.on q g := rfl

/-! ### modRail -/

@[simp] theorem Block.modRail_regs (b : Block) (r : Nat) (f : Rail → Rail) : (b.modRail r f).regs = b.regs := rfl
@[simp] theorem Block.modRail_live (b : Block) (r : Nat) (f : Rail → Rail) : (b.modRail r f).live = b.live := rfl
@[simp] theorem Block.modRail_cnt (b : Block) (r : Nat) (f : Rail → Rail) : (b.modRail r f).cnt = b.cnt := rfl
@[simp] theorem Block.modRail_events (b : Block) (r : Nat) (f : Rail → Rail) : (b.modRail r f).events = b.events := rfl
@[simp] theorem Block.modRail_now (b : Block) (r : Nat) (f : Rail → Rail) : (b.modRail r f).now = b.now := rfl
@[simp] theorem Block.modRail_elapsed (b : Block) (r : Nat) (f : Rail → Rail) : (b.modRail r f).elapsed = b.elapsed := rfl
@[simp] theorem Block.modRail_tu (b : Block) (r : Nat) (f : Rail → Rail) : (b.modRail r f).tu = b.tu := rfl
@[simp] theorem Block.modRail_cells (b : Block) (r : Nat) (f : Rail → Rail) : (b.modRail r f).cells = b.cells := rfl
@[simp] theorem Block.modRail_nodes (b : Block) (r : Nat) (f : Rail → Rail) : (b.modRail r f).nodes = b.nodes := rfl
@[simp] theorem Block.modRail_nis (b : Block) (r : Nat) (f : Rail → Rail) : (b.modRail r f).nis = b.nis := rfl
@[simp] theorem Block.modRail_ports (b : Block) (r : Nat) (f : Rail → Rail) : (b.modRail r f).ports = b.ports := rfl
@[simp] theorem Block.modRail_csq (b : Block) (r : Nat) (f : Rail → Rail) : (b.modRail r f).csq = b.csq := rfl
@[simp] theorem Block.modRail_fs (b : Block) (r : Nat) (f : Rail → Rail) : (b.modRail r f).fs = b.fs := rfl
@[simp] theorem Block.modRail_evl (b : Block) (r : Nat) (f : Rail → Rail) : (b.modRail r f).evl = b.evl := rfl
@[simp] theorem Block.modRail_gt (b : Block) (r : Nat) (f : Rail → Rail) : (b.modRail r f).gt = b.gt := rfl
@[simp] theorem Block.modRail_mm (b : Block) (r : Nat) (f : Rail → Rail) : (b.modRail r f).mm = b.mm := rfl
@[simp] theorem Block.modRail_fc (b : Block) (r : Nat) (f : Rail → Rail) : (b.modRail r f).fc = b.fc := rfl
@[simp] theorem Block.modRail_pr (b : Block) (r : Nat) (f : Rail → Rail) : (b.modRail r f).pr = b.pr := rfl
@[simp] theorem Block.modRail_stw (b : Block) (r : Nat) (f : Rail → Rail) : (b.modRail r f).stw = b.stw := rfl
@[simp] theorem Block.modRail_lc (b : Block) (r : Nat) (f : Rail → Rail) : (b.modRail r f).lc = b.lc := rfl
@[simp] theorem Block.modRail_cp (b : Block) (r : Nat) (f : Rail → Rail) : (b.modRail r f).cp = b.cp := rfl
@[simp] theorem Block.modRail_dbg (b : Block) (r : Nat) (f : Rail → Rail) : (b.modRail r f).dbg = b.dbg := rfl
@[simp] theorem Block.modRail_lastCut (b : Block) (r : Nat) (f : Rail → Rail) : (b.modRail r f).lastCut = b.lastCut := rfl
@[simp] theorem Block.modRail_spOut (b : Block) (r : Nat) (f : Rail → Rail) : (b.modRail r f).spOut = b.spOut := rfl
@[simp] theorem Block.modRail_pins (b : Block) (r : Nat) (f : Rail → Rail) : (b.modRail r f).pins = b.pins := rfl
@[simp] theorem Block.modRail_free (b : Block) (r : Nat) (f : Rail → Rail) : (b.modRail r f).free = b.free := rfl
@[simp] theorem Block.modRail_rd (b : Block) (r : Nat) (f : Rail → Rail) (q o : Nat) : (b.modRail r f).rd q o = b.rd q o := rfl
@[simp] theorem Block.modRail_g (b : Block) (r : Nat) (f : Rail → Rail) (q : Nat) (g : Fld) : (b.modRail r f).g q g = b.g q g := rfl
@[simp] theorem Block.modRail_on (b : Block) (r : Nat) (f : Rail → Rail) (q : Nat) (g : Fld) : (b.modRail r f).on q g = b.on q g := rfl

/-! ### modPort -/

@[simp] theorem Block.modPort_regs (b : Block) (m : Nat) (f : MPort → MPort) : (b.modPort m f).regs = b.regs := rfl
@[simp] theorem Block.modPort_live (b : Block) (m : Nat) (f : MPort → MPort) : (b.modPort m f).live = b.live := rfl
@[simp] theorem Block.modPort_cnt (b : Block) (m : Nat) (f : MPort → MPort) : (b.modPort m f).cnt = b.cnt := rfl
@[simp] theorem Block.modPort_events (b : Block) (m : Nat) (f : MPort → MPort) : (b.modPort m f).events = b.events := rfl
@[simp] theorem Block.modPort_now (b : Block) (m : Nat) (f : MPort → MPort) : (b.modPort m f).now = b.now := rfl
@[simp] theorem Block.modPort_elapsed (b : Block) (m : Nat) (f : MPort → MPort) : (b.modPort m f).elapsed = b.elapsed := rfl
@[simp] theorem Block.modPort_tu (b : Block) (m : Nat) (f : MPort → MPort) : (b.modPort m f).tu = b.tu := rfl
@[simp] theorem Block.modPort_cells (b : Block) (m : Nat) (f : MPort → MPort) : (b.modPort m f).cells = b.cells := rfl
@[simp] theorem Block.modPort_nodes (b : Block) (m : Nat) (f : MPort → MPort) : (b.modPort m f).nodes = b.nodes := rfl
@[simp] theorem Block.modPort_nis (b : Block) (m : Nat) (f : MPort → MPort) : (b.modPort m f).nis = b.nis := rfl
@[simp] theorem Block.modPort_csq (b : Block) (m : Nat) (f : MPort → MPort) : (b.modPort m f).csq = b.csq := rfl
@[simp] theorem Block.modPort_fs (b : Block) (m : Nat) (f : MPort → MPort) : (b.modPort m f).fs = b.fs := rfl
@[simp] theorem Block.modPort_evl (b : Block) (m : Nat) (f : MPort → MPort) : (b.modPort m f).evl = b.evl := rfl
@[simp] theorem Block.modPort_gt (b : Block) (m : Nat) (f : MPort → MPort) : (b.modPort m f).gt = b.gt := rfl
@[simp] theorem Block.modPort_mm (b : Block) (m : Nat) (f : MPort → MPort) : (b.modPort m f).mm = b.mm := rfl
@[simp] theorem Block.modPort_fc (b : Block) (m : Nat) (f : MPort → MPort) : (b.modPort m f).fc = b.fc := rfl
@[simp] theorem Block.modPort_pm (b : Block) (m : Nat) (f : MPort → MPort) : (b.modPort m f).pm = b.pm := rfl
@[simp] theorem Block.modPort_pr (b : Block) (m : Nat) (f : MPort → MPort) : (b.modPort m f).pr = b.pr := rfl
@[simp] theorem Block.modPort_stw (b : Block) (m : Nat) (f : MPort → MPort) : (b.modPort m f).stw = b.stw := rfl
@[simp] theorem Block.modPort_lc (b : Block) (m : Nat) (f : MPort → MPort) : (b.modPort m f).lc = b.lc := rfl
@[simp] theorem Block.modPort_cp (b : Block) (m : Nat) (f : MPort → MPort) : (b.modPort m f).cp = b.cp := rfl
@[simp] theorem Block.modPort_dbg (b : Block) (m : Nat) (f : MPort → MPort) : (b.modPort m f).dbg = b.dbg := rfl
@[simp] theorem Block.modPort_lastCut (b : Block) (m : Nat) (f : MPort → MPort) : (b.modPort m f).lastCut = b.lastCut := rfl
@[simp] theorem Block.modPort_spOut (b : Block) (m : Nat) (f : MPort → MPort) : (b.modPort m f).spOut = b.spOut := rfl
@[simp] theorem Block.modPort_pins (b : Block) (m : Nat) (f : MPort → MPort) : (b.modPort m f).pins = b.pins := rfl
@[simp] theorem Block.modPort_free (b : Block) (m : Nat) (f : MPort → MPort) : (b.modPort m f).free = b.free := rfl
@[simp] theorem Block.modPort_rd (b : Block) (m : Nat) (f : MPort → MPort) (q o : Nat) : (b.modPort m f).rd q o = b.rd q o := rfl
@[simp] theorem Block.modPort_g (b : Block) (m : Nat) (f : MPort → MPort) (q : Nat) (g : Fld) : (b.modPort m f).g q g = b.g q g := rfl
@[simp] theorem Block.modPort_on (b : Block) (m : Nat) (f : MPort → MPort) (q : Nat) (g : Fld) : (b.modPort m f).on q g = b.on q g := rfl

/-! ### count -/

@[simp] theorem Block.count_regs (b : Block) (p off k : Nat) : (b.count p off k).regs = b.regs := by
  rw [Block.count]; split
  · rfl
  · exact Block.setCounter_regs b p off _
@[simp] theorem Block.count_live (b : Block) (p off k : Nat) : (b.count p off k).live = b.live := by
  rw [Block.count]; split
  · rfl
  · exact Block.setCounter_live b p off _
@[simp] theorem Block.count_events (b : Block) (p off k : Nat) : (b.count p off k).events = b.events := by
  rw [Block.count]; split
  · rfl
  · exact Block.setCounter_events b p off _
@[simp] theorem Block.count_now (b : Block) (p off k : Nat) : (b.count p off k).now = b.now := by
  rw [Block.count]; split
  · rfl
  · exact Block.setCounter_now b p off _
@[simp] theorem Block.count_elapsed (b : Block) (p off k : Nat) : (b.count p off k).elapsed = b.elapsed := by
  rw [Block.count]; split
  · rfl
  · exact Block.setCounter_elapsed b p off _
@[simp] theorem Block.count_tu (b : Block) (p off k : Nat) : (b.count p off k).tu = b.tu := by
  rw [Block.count]; split
  · rfl
  · exact Block.setCounter_tu b p off _
@[simp] theorem Block.count_cells (b : Block) (p off k : Nat) : (b.count p off k).cells = b.cells := by
  rw [Block.count]; split
  · rfl
  · exact Block.setCounter_cells b p off _
@[simp] theorem Block.count_nodes (b : Block) (p off k : Nat) : (b.count p off k).nodes = b.nodes := by
  rw [Block.count]; split
  · rfl
  · exact Block.setCounter_nodes b p off _
@[simp] theorem Block.count_nis (b : Block) (p off k : Nat) : (b.count p off k).nis = b.nis := by
  rw [Block.count]; split
  · rfl
  · exact Block.setCounter_nis b p off _
@[simp] theorem Block.count_ports (b : Block) (p off k : Nat) : (b.count p off k).ports = b.ports := by
  rw [Block.count]; split
  · rfl
  · exact Block.setCounter_ports b p off _
@[simp] theorem Block.count_csq (b : Block) (p off k : Nat) : (b.count p off k).csq = b.csq := by
  rw [Block.count]; split
  · rfl
  · exact Block.setCounter_csq b p off _
@[simp] theorem Block.count_fs (b : Block) (p off k : Nat) : (b.count p off k).fs = b.fs := by
  rw [Block.count]; split
  · rfl
  · exact Block.setCounter_fs b p off _
@[simp] theorem Block.count_evl (b : Block) (p off k : Nat) : (b.count p off k).evl = b.evl := by
  rw [Block.count]; split
  · rfl
  · exact Block.setCounter_evl b p off _
@[simp] theorem Block.count_gt (b : Block) (p off k : Nat) : (b.count p off k).gt = b.gt := by
  rw [Block.count]; split
  · rfl
  · exact Block.setCounter_gt b p off _
@[simp] theorem Block.count_mm (b : Block) (p off k : Nat) : (b.count p off k).mm = b.mm := by
  rw [Block.count]; split
  · rfl
  · exact Block.setCounter_mm b p off _
@[simp] theorem Block.count_fc (b : Block) (p off k : Nat) : (b.count p off k).fc = b.fc := by
  rw [Block.count]; split
  · rfl
  · exact Block.setCounter_fc b p off _
@[simp] theorem Block.count_pm (b : Block) (p off k : Nat) : (b.count p off k).pm = b.pm := by
  rw [Block.count]; split
  · rfl
  · exact Block.setCounter_pm b p off _
@[simp] theorem Block.count_pr (b : Block) (p off k : Nat) : (b.count p off k).pr = b.pr := by
  rw [Block.count]; split
  · rfl
  · exact Block.setCounter_pr b p off _
@[simp] theorem Block.count_stw (b : Block) (p off k : Nat) : (b.count p off k).stw = b.stw := by
  rw [Block.count]; split
  · rfl
  · exact Block.setCounter_stw b p off _
@[simp] theorem Block.count_lc (b : Block) (p off k : Nat) : (b.count p off k).lc = b.lc := by
  rw [Block.count]; split
  · rfl
  · exact Block.setCounter_lc b p off _
@[simp] theorem Block.count_cp (b : Block) (p off k : Nat) : (b.count p off k).cp = b.cp := by
  rw [Block.count]; split
  · rfl
  · exact Block.setCounter_cp b p off _
@[simp] theorem Block.count_dbg (b : Block) (p off k : Nat) : (b.count p off k).dbg = b.dbg := by
  rw [Block.count]; split
  · rfl
  · exact Block.setCounter_dbg b p off _
@[simp] theorem Block.count_lastCut (b : Block) (p off k : Nat) : (b.count p off k).lastCut = b.lastCut := by
  rw [Block.count]; split
  · rfl
  · exact Block.setCounter_lastCut b p off _
@[simp] theorem Block.count_spOut (b : Block) (p off k : Nat) : (b.count p off k).spOut = b.spOut := by
  rw [Block.count]; split
  · rfl
  · exact Block.setCounter_spOut b p off _
@[simp] theorem Block.count_pins (b : Block) (p off k : Nat) : (b.count p off k).pins = b.pins := by
  rw [Block.count]; split
  · rfl
  · exact Block.setCounter_pins b p off _
@[simp] theorem Block.count_free (b : Block) (p off k : Nat) : (b.count p off k).free = b.free := by
  rw [Block.count]; split
  · rfl
  · exact Block.setCounter_free b p off _
@[simp] theorem Block.count_rd (b : Block) (p off k : Nat) (q o : Nat) : (b.count p off k).rd q o = b.rd q o := by
  rw [Block.count]; split
  · rfl
  · exact Block.setCounter_rd b p off _ q o
@[simp] theorem Block.count_g (b : Block) (p off k : Nat) (q : Nat) (g : Fld) : (b.count p off k).g q g = b.g q g := by
  rw [Block.count]; split
  · rfl
  · exact Block.setCounter_g b p off _ q g
@[simp] theorem Block.count_on (b : Block) (p off k : Nat) (q : Nat) (g : Fld) : (b.count p off k).on q g = b.on q g := by
  rw [Block.count]; split
  · rfl
  · exact Block.setCounter_on b p off _ q g

/-! ### cntNi -/

@[simp] theorem Block.cntNi_regs (b : Block) (i off : Nat) : (b.cntNi i off).regs = b.regs := Block.count_regs b _ off 1
@[simp] theorem Block.cntNi_live (b : Block) (i off : Nat) : (b.cntNi i off).live = b.live := Block.count_live b _ off 1
@[simp] theorem Block.cntNi_events (b : Block) (i off : Nat) : (b.cntNi i off).events = b.events := Block.count_events b _ off 1
@[simp] theorem Block.cntNi_now (b : Block) (i off : Nat) : (b.cntNi i off).now = b.now := Block.count_now b _ off 1
@[simp] theorem Block.cntNi_elapsed (b : Block) (i off : Nat) : (b.cntNi i off).elapsed = b.elapsed := Block.count_elapsed b _ off 1
@[simp] theorem Block.cntNi_tu (b : Block) (i off : Nat) : (b.cntNi i off).tu = b.tu := Block.count_tu b _ off 1
@[simp] theorem Block.cntNi_cells (b : Block) (i off : Nat) : (b.cntNi i off).cells = b.cells := Block.count_cells b _ off 1
@[simp] theorem Block.cntNi_nodes (b : Block) (i off : Nat) : (b.cntNi i off).nodes = b.nodes := Block.count_nodes b _ off 1
@[simp] theorem Block.cntNi_nis (b : Block) (i off : Nat) : (b.cntNi i off).nis = b.nis := Block.count_nis b _ off 1
@[simp] theorem Block.cntNi_ports (b : Block) (i off : Nat) : (b.cntNi i off).ports = b.ports := Block.count_ports b _ off 1
@[simp] theorem Block.cntNi_csq (b : Block) (i off : Nat) : (b.cntNi i off).csq = b.csq := Block.count_csq b _ off 1
@[simp] theorem Block.cntNi_fs (b : Block) (i off : Nat) : (b.cntNi i off).fs = b.fs := Block.count_fs b _ off 1
@[simp] theorem Block.cntNi_evl (b : Block) (i off : Nat) : (b.cntNi i off).evl = b.evl := Block.count_evl b _ off 1
@[simp] theorem Block.cntNi_gt (b : Block) (i off : Nat) : (b.cntNi i off).gt = b.gt := Block.count_gt b _ off 1
@[simp] theorem Block.cntNi_mm (b : Block) (i off : Nat) : (b.cntNi i off).mm = b.mm := Block.count_mm b _ off 1
@[simp] theorem Block.cntNi_fc (b : Block) (i off : Nat) : (b.cntNi i off).fc = b.fc := Block.count_fc b _ off 1
@[simp] theorem Block.cntNi_pm (b : Block) (i off : Nat) : (b.cntNi i off).pm = b.pm := Block.count_pm b _ off 1
@[simp] theorem Block.cntNi_pr (b : Block) (i off : Nat) : (b.cntNi i off).pr = b.pr := Block.count_pr b _ off 1
@[simp] theorem Block.cntNi_stw (b : Block) (i off : Nat) : (b.cntNi i off).stw = b.stw := Block.count_stw b _ off 1
@[simp] theorem Block.cntNi_lc (b : Block) (i off : Nat) : (b.cntNi i off).lc = b.lc := Block.count_lc b _ off 1
@[simp] theorem Block.cntNi_cp (b : Block) (i off : Nat) : (b.cntNi i off).cp = b.cp := Block.count_cp b _ off 1
@[simp] theorem Block.cntNi_dbg (b : Block) (i off : Nat) : (b.cntNi i off).dbg = b.dbg := Block.count_dbg b _ off 1
@[simp] theorem Block.cntNi_lastCut (b : Block) (i off : Nat) : (b.cntNi i off).lastCut = b.lastCut := Block.count_lastCut b _ off 1
@[simp] theorem Block.cntNi_spOut (b : Block) (i off : Nat) : (b.cntNi i off).spOut = b.spOut := Block.count_spOut b _ off 1
@[simp] theorem Block.cntNi_pins (b : Block) (i off : Nat) : (b.cntNi i off).pins = b.pins := Block.count_pins b _ off 1
@[simp] theorem Block.cntNi_free (b : Block) (i off : Nat) : (b.cntNi i off).free = b.free := Block.count_free b _ off 1
@[simp] theorem Block.cntNi_rd (b : Block) (i off : Nat) (q o : Nat) : (b.cntNi i off).rd q o = b.rd q o := Block.count_rd b _ off 1 q o
@[simp] theorem Block.cntNi_g (b : Block) (i off : Nat) (q : Nat) (g : Fld) : (b.cntNi i off).g q g = b.g q g := Block.count_g b _ off 1 q g
@[simp] theorem Block.cntNi_on (b : Block) (i off : Nat) (q : Nat) (g : Fld) : (b.cntNi i off).on q g = b.on q g := Block.count_on b _ off 1 q g

/-! ### raise -/

@[simp] theorem Block.raise_live (b : Block) (src cls lvl d : Nat) : (b.raise src cls lvl d).live = b.live := by unfold Block.raise; dsimp only; split <;> rfl
@[simp] theorem Block.raise_cnt (b : Block) (src cls lvl d : Nat) : (b.raise src cls lvl d).cnt = b.cnt := by unfold Block.raise; dsimp only; split <;> rfl
@[simp] theorem Block.raise_now (b : Block) (src cls lvl d : Nat) : (b.raise src cls lvl d).now = b.now := by unfold Block.raise; dsimp only; split <;> rfl
@[simp] theorem Block.raise_elapsed (b : Block) (src cls lvl d : Nat) : (b.raise src cls lvl d).elapsed = b.elapsed := by unfold Block.raise; dsimp only; split <;> rfl
@[simp] theorem Block.raise_tu (b : Block) (src cls lvl d : Nat) : (b.raise src cls lvl d).tu = b.tu := by unfold Block.raise; dsimp only; split <;> rfl
@[simp] theorem Block.raise_cells (b : Block) (src cls lvl d : Nat) : (b.raise src cls lvl d).cells = b.cells := by unfold Block.raise; dsimp only; split <;> rfl
@[simp] theorem Block.raise_nodes (b : Block) (src cls lvl d : Nat) : (b.raise src cls lvl d).nodes = b.nodes := by unfold Block.raise; dsimp only; split <;> rfl
@[simp] theorem Block.raise_nis (b : Block) (src cls lvl d : Nat) : (b.raise src cls lvl d).nis = b.nis := by unfold Block.raise; dsimp only; split <;> rfl
@[simp] theorem Block.raise_ports (b : Block) (src cls lvl d : Nat) : (b.raise src cls lvl d).ports = b.ports := by unfold Block.raise; dsimp only; split <;> rfl
@[simp] theorem Block.raise_csq (b : Block) (src cls lvl d : Nat) : (b.raise src cls lvl d).csq = b.csq := by unfold Block.raise; dsimp only; split <;> rfl
@[simp] theorem Block.raise_fs (b : Block) (src cls lvl d : Nat) : (b.raise src cls lvl d).fs = b.fs := by unfold Block.raise; dsimp only; split <;> rfl
@[simp] theorem Block.raise_evl (b : Block) (src cls lvl d : Nat) : (b.raise src cls lvl d).evl = b.evl := by unfold Block.raise; dsimp only; split <;> rfl
@[simp] theorem Block.raise_gt (b : Block) (src cls lvl d : Nat) : (b.raise src cls lvl d).gt = b.gt := by unfold Block.raise; dsimp only; split <;> rfl
@[simp] theorem Block.raise_mm (b : Block) (src cls lvl d : Nat) : (b.raise src cls lvl d).mm = b.mm := by unfold Block.raise; dsimp only; split <;> rfl
@[simp] theorem Block.raise_fc (b : Block) (src cls lvl d : Nat) : (b.raise src cls lvl d).fc = b.fc := by unfold Block.raise; dsimp only; split <;> rfl
@[simp] theorem Block.raise_pm (b : Block) (src cls lvl d : Nat) : (b.raise src cls lvl d).pm = b.pm := by unfold Block.raise; dsimp only; split <;> rfl
@[simp] theorem Block.raise_pr (b : Block) (src cls lvl d : Nat) : (b.raise src cls lvl d).pr = b.pr := by unfold Block.raise; dsimp only; split <;> rfl
@[simp] theorem Block.raise_stw (b : Block) (src cls lvl d : Nat) : (b.raise src cls lvl d).stw = b.stw := by unfold Block.raise; dsimp only; split <;> rfl
@[simp] theorem Block.raise_lc (b : Block) (src cls lvl d : Nat) : (b.raise src cls lvl d).lc = b.lc := by unfold Block.raise; dsimp only; split <;> rfl
@[simp] theorem Block.raise_cp (b : Block) (src cls lvl d : Nat) : (b.raise src cls lvl d).cp = b.cp := by unfold Block.raise; dsimp only; split <;> rfl
@[simp] theorem Block.raise_dbg (b : Block) (src cls lvl d : Nat) : (b.raise src cls lvl d).dbg = b.dbg := by unfold Block.raise; dsimp only; split <;> rfl
@[simp] theorem Block.raise_lastCut (b : Block) (src cls lvl d : Nat) : (b.raise src cls lvl d).lastCut = b.lastCut := by unfold Block.raise; dsimp only; split <;> rfl
@[simp] theorem Block.raise_spOut (b : Block) (src cls lvl d : Nat) : (b.raise src cls lvl d).spOut = b.spOut := by unfold Block.raise; dsimp only; split <;> rfl
@[simp] theorem Block.raise_pins (b : Block) (src cls lvl d : Nat) : (b.raise src cls lvl d).pins = b.pins := by unfold Block.raise; dsimp only; split <;> rfl
@[simp] theorem Block.raise_free (b : Block) (src cls lvl d : Nat) : (b.raise src cls lvl d).free = b.free := by unfold Block.raise; dsimp only; split <;> rfl

@[simp] theorem Block.fresh_regs (b : Block) : b.fresh.2.regs = b.regs := rfl
@[simp] theorem Block.fresh_live (b : Block) : b.fresh.2.live = b.live := rfl
@[simp] theorem Block.fresh_cnt (b : Block) : b.fresh.2.cnt = b.cnt := rfl
@[simp] theorem Block.fresh_events (b : Block) : b.fresh.2.events = b.events := rfl
@[simp] theorem Block.fresh_now (b : Block) : b.fresh.2.now = b.now := rfl
@[simp] theorem Block.fresh_elapsed (b : Block) : b.fresh.2.elapsed = b.elapsed := rfl
@[simp] theorem Block.fresh_tu (b : Block) : b.fresh.2.tu = b.tu := rfl
@[simp] theorem Block.fresh_cells (b : Block) : b.fresh.2.cells = b.cells := rfl
@[simp] theorem Block.fresh_nodes (b : Block) : b.fresh.2.nodes = b.nodes := rfl
@[simp] theorem Block.fresh_nis (b : Block) : b.fresh.2.nis = b.nis := rfl
@[simp] theorem Block.fresh_ports (b : Block) : b.fresh.2.ports = b.ports := rfl
@[simp] theorem Block.fresh_csq (b : Block) : b.fresh.2.csq = b.csq := rfl
@[simp] theorem Block.fresh_fs (b : Block) : b.fresh.2.fs = b.fs := rfl
@[simp] theorem Block.fresh_evl (b : Block) : b.fresh.2.evl = b.evl := rfl
@[simp] theorem Block.fresh_gt (b : Block) : b.fresh.2.gt = b.gt := rfl
@[simp] theorem Block.fresh_mm (b : Block) : b.fresh.2.mm = b.mm := rfl
@[simp] theorem Block.fresh_fc (b : Block) : b.fresh.2.fc = b.fc := rfl
@[simp] theorem Block.fresh_pm (b : Block) : b.fresh.2.pm = b.pm := rfl
@[simp] theorem Block.fresh_pr (b : Block) : b.fresh.2.pr = b.pr := rfl
@[simp] theorem Block.fresh_stw (b : Block) : b.fresh.2.stw = b.stw := rfl
@[simp] theorem Block.fresh_lc (b : Block) : b.fresh.2.lc = b.lc := rfl
@[simp] theorem Block.fresh_cp (b : Block) : b.fresh.2.cp = b.cp := rfl
@[simp] theorem Block.fresh_dbg (b : Block) : b.fresh.2.dbg = b.dbg := rfl
@[simp] theorem Block.fresh_lastCut (b : Block) : b.fresh.2.lastCut = b.lastCut := rfl
@[simp] theorem Block.fresh_spOut (b : Block) : b.fresh.2.spOut = b.spOut := rfl
@[simp] theorem Block.fresh_pins (b : Block) : b.fresh.2.pins = b.pins := rfl

@[simp] theorem Sys.upd_blk (w : Sys) (f : Block → Block) : (w.upd f).blk = f w.blk := rfl
@[simp] theorem Sys.upd_mem (w : Sys) (f : Block → Block) : (w.upd f).mem = w.mem := rfl
@[simp] theorem Sys.upd_ops (w : Sys) (f : Block → Block) : (w.upd f).ops = w.ops := rfl
@[simp] theorem Sys.emit_blk (w : Sys) (os : List MemOp) : (w.emit os).blk = w.blk := rfl
@[simp] theorem Sys.emit_mem (w : Sys) (os : List MemOp) : (w.emit os).mem = w.mem.apply os := rfl
@[simp] theorem Sys.emit_ops (w : Sys) (os : List MemOp) : (w.emit os).ops = w.ops ++ os := rfl

end Sys2Proof.Machine
end

