-- ==== Sys2Proof/Laws/Events.lean ====
section
/-! SUPPORT. What raising an event and letting time pass do: everything else stands as it was (12 R359; 15 R454). -/
namespace Sys2Proof.Machine

/-! ### Events -/

/-- An event marks one PG_EV_PEND bit; no other word changes. -/
theorem Block.raise_rd_ne (b : Block) (src cls lvl d p off : Nat) (h : regKey (pageOfSource src) 0x018 ≠ regKey p off) :
    (b.raise src cls lvl d).rd p off = b.rd p off := by
  have hs : (b.s (pageOfSource src) ⟨0x018, evBit src, 1⟩ 1).rd p off = b.rd p off := Block.rd_s_ne _ _ _ _ _ _ h
  unfold Block.raise; dsimp only; split
  · exact hs
  · exact hs

theorem Block.raise_rd (b : Block) (src cls lvl d p off : Nat) (h : off < 4096) (h' : off / 4 ≠ 6) :
    (b.raise src cls lvl d).rd p off = b.rd p off := by
  apply Block.raise_rd_ne; unfold regKey; omega

theorem Block.raise_g (b : Block) (src cls lvl d p : Nat) (f : Fld) (h : f.off < 4096) (h' : f.off / 4 ≠ 6) :
    (b.raise src cls lvl d).g p f = b.g p f := by
  unfold Block.g; rw [Block.raise_rd _ _ _ _ _ _ _ h h']

theorem Block.raise_on (b : Block) (src cls lvl d p : Nat) (f : Fld) (h : f.off < 4096) (h' : f.off / 4 ≠ 6) :
    (b.raise src cls lvl d).on p f = b.on p f := by
  unfold Block.on; rw [Block.raise_g _ _ _ _ _ _ _ h h']

/-- An event of level 1 or more waits for delivery from then on. -/
theorem Block.raise_events (b : Block) (src cls lvl d : Nat) (h : lvl ≠ 0) :
    (b.raise src cls lvl d).events =
      mergeEvent { src := src, cls := cls, lvl := lvl, detail := d % 2 ^ 16, stamp := BitVec.ofNat 64 b.stamp } b.events := by
  unfold Block.raise
  simp [h, Block.stamp]

theorem mergeEvent_mem (e : Event) (es : List Event) : (mergeEvent e es).any (fun x => x.src == e.src && x.cls == e.cls) = true := by
  induction es with
  | nil => simp [mergeEvent]
  | cons x xs ih =>
    unfold mergeEvent
    split
    · rename_i h; simp [h.1, h.2]
    · simp [ih]

/-! ### Time -/

/-- The units but the counters and the clock are the same. -/
def Block.sameButTime (b b' : Block) : Prop := ∃ c t e, b' = { b with cnt := c, now := t, elapsed := e }

theorem Block.sameButTime_refl (b : Block) : b.sameButTime b := ⟨b.cnt, b.now, b.elapsed, rfl⟩

theorem Block.sameButTime_trans {a b c : Block} (h : a.sameButTime b) (h' : b.sameButTime c) : a.sameButTime c := by
  obtain ⟨_, _, _, rfl⟩ := h
  obtain ⟨x, y, z, rfl⟩ := h'
  exact ⟨x, y, z, rfl⟩

theorem Block.sameButTime_count (b : Block) (p off k : Nat) : b.sameButTime (b.count p off k) := by
  unfold Block.count
  split
  · exact b.sameButTime_refl
  · exact ⟨_, b.now, b.elapsed, rfl⟩

theorem Block.sameButTime_foldl {α : Type} (f : Block → α → Block) (hf : ∀ (c : Block) (x : α), c.sameButTime (f c x)) (l : List α) (b : Block) :
    b.sameButTime (l.foldl f b) := by
  induction l generalizing b with
  | nil => exact b.sameButTime_refl
  | cons x xs ih => exact Block.sameButTime_trans (hf b x) (ih _)

theorem Block.sameButTime_accountNode (b : Block) (n d : Nat) : b.sameButTime (b.accountNode n d) := by
  unfold Block.accountNode
  exact Block.sameButTime_trans (Block.sameButTime_foldl _ (fun c p => Block.sameButTime_count c _ _ _) _ b) (Block.sameButTime_count _ _ _ _)

/-- Time passes: nothing but the counters and the clock changes, and both scales gain what passed. -/
theorem Block.advance_sameButTime (b : Block) (k : Nat) : b.sameButTime (b.advance k) := by
  unfold Block.advance
  dsimp only
  split
  · exact ⟨_, _, _, rfl⟩
  · exact Block.sameButTime_trans (Block.sameButTime_foldl _ (fun c n => Block.sameButTime_accountNode c n _) _ b) ⟨_, _, _, rfl⟩

theorem Block.foldl_accountNode_clock (l : List Nat) (d : Nat) (b : Block) :
    (l.foldl (fun b n => b.accountNode n d) b).now = b.now ∧ (l.foldl (fun b n => b.accountNode n d) b).elapsed = b.elapsed := by
  have hc (ps : List Nat) (n : Nat) (b : Block) :
      (ps.foldl (fun b p => b.count (pgCntNode n) (0x040 + 0x40 * p + b.portState n p) d) b).now = b.now ∧
      (ps.foldl (fun b p => b.count (pgCntNode n) (0x040 + 0x40 * p + b.portState n p) d) b).elapsed = b.elapsed := by
    induction ps generalizing b with
    | nil => exact ⟨rfl, rfl⟩
    | cons x xs ih => have h := ih (b.count (pgCntNode n) (0x040 + 0x40 * x + b.portState n x) d); simpa using h
  induction l generalizing b with
  | nil => exact ⟨rfl, rfl⟩
  | cons x xs ih =>
    have h := ih (b.accountNode x d)
    have h2 := hc (having 7 (portExists x)) x b
    constructor
    · exact h.1.trans (by unfold Block.accountNode; simpa using h2.1)
    · exact h.2.trans (by unfold Block.accountNode; simpa using h2.2)

theorem Block.advance_now (b : Block) (k : Nat) : (b.advance k).now = b.now + k := by
  unfold Block.advance; dsimp only; split
  · rfl
  · simp [(Block.foldl_accountNode_clock _ _ b).1]

theorem Block.advance_elapsed (b : Block) (k : Nat) : (b.advance k).elapsed = b.elapsed + k := by
  unfold Block.advance; dsimp only; split
  · rfl
  · simp [(Block.foldl_accountNode_clock _ _ b).2]

theorem Block.until_sameButTime (b : Block) (t : Nat) : b.sameButTime (b.until t) := by
  unfold Block.until; split
  · exact b.advance_sameButTime _
  · exact b.sameButTime_refl

theorem Block.untilTime_sameButTime (b : Block) (t : Nat) : b.sameButTime (b.untilTime t) := by
  unfold Block.untilTime; split
  · exact b.advance_sameButTime _
  · exact b.sameButTime_refl

theorem Block.until_elapsed (b : Block) (t : Nat) : (b.until t).elapsed = max b.elapsed t := by
  unfold Block.until; split
  · rw [Block.advance_elapsed]; omega
  · omega

theorem Block.untilTime_now (b : Block) (t : Nat) : (b.untilTime t).now = max b.now t := by
  unfold Block.untilTime; split
  · rw [Block.advance_now]; omega
  · omega

end Sys2Proof.Machine
end

