-- ==== Sys2Proof/Laws/Memory.lean ====
section
/-! SUPPORT. Laws of the addressed memories: every operation keeps the canonical form (18 R515; 11 R333), and what a read of
one byte finds after an operation. -/
namespace Sys2Proof.Machine

theorem MemOp.wf_apply (m : Mem) (o : MemOp) (h : m.wf = true) : (o.apply m).wf = true := by
  simp only [Mem.wf, Bool.and_eq_true] at h ⊢
  cases o with
  | byte a b => exact ⟨AMap.wf_set 0 m.cells a b h.1, h.2⟩
  | flags w f => exact ⟨h.1, AMap.wf_set {} m.flags w f h.2⟩
  | wipe lo hi => exact ⟨AMap.wf_drop 0 m.cells lo hi h.1, AMap.wf_drop {} m.flags _ _ h.2⟩

/-- Every sequence of memory operations keeps the canonical form. -/
theorem Mem.wf_apply (m : Mem) (os : List MemOp) (h : m.wf = true) : (m.apply os).wf = true := by
  unfold Mem.apply
  induction os generalizing m with
  | nil => exact h
  | cons o os ih => exact ih _ (MemOp.wf_apply m o h)

@[simp] theorem Mem.apply_nil (m : Mem) : m.apply [] = m := rfl
@[simp] theorem Mem.apply_append (m : Mem) (as bs : List MemOp) : m.apply (as ++ bs) = (m.apply as).apply bs := by
  simp [Mem.apply]

/-- A byte after a byte was written. -/
theorem Mem.byteAt_byte (m : Mem) (a x : Nat) (v : Byte) :
    (MemOp.apply m (.byte a v)).byteAt x = if a = x then v else m.byteAt x := by
  simp [MemOp.apply, Mem.byteAt, AMap.get_set]

@[simp] theorem Mem.byteAt_flags (m : Mem) (w x : Nat) (f : WFlags) : (MemOp.apply m (.flags w f)).byteAt x = m.byteAt x := rfl

@[simp] theorem Mem.flagsAt_byte (m : Mem) (a w : Nat) (v : Byte) : (MemOp.apply m (.byte a v)).flagsAt w = m.flagsAt w := rfl

theorem Mem.flagsAt_flags (m : Mem) (w x : Nat) (f : WFlags) :
    (MemOp.apply m (.flags w f)).flagsAt x = if w = x then f else m.flagsAt x := by
  simp [MemOp.apply, Mem.flagsAt, AMap.get_set]

end Sys2Proof.Machine
end

