-- ==== Sys2Proof/Laws/Nodes.lean ====
section
/-! SUPPORT. What the shared operations of nodes and links leave alone (02 R30, R31; 03 R59; 04 R92-R97). -/
namespace Sys2Proof.Machine

/-! ### Buffers and outputs -/

theorem vcKey_inj {q q' v v' : Nat} (h : v < 16) (h' : v' < 16) : vcKey q v = vcKey q' v' ↔ q = q' ∧ v = v' := by
  unfold vcKey; omega

@[simp] theorem Block.buf_setBuf_self (b : Block) (n q v : Nat) (x : VcBuf) : (b.setBuf n q v x).buf n q v = x := by
  simp [Block.buf, Block.setBuf]

theorem Block.buf_setBuf (b : Block) (n q v m q' v' : Nat) (x : VcBuf) :
    (b.setBuf n q v x).buf m q' v' = if n = m ∧ vcKey q v = vcKey q' v' then x else b.buf m q' v' := by
  by_cases hn : n = m
  · subst hn; simp [Block.buf, Block.setBuf, AMap.get_set]
  · simp [Block.buf, Block.setBuf, hn]

@[simp] theorem Block.out_setBuf (b : Block) (n q v : Nat) (x : VcBuf) (o : Port) : (b.setBuf n q v x).out o = b.out o := by
  cases o with
  | node m p => by_cases h : n = m <;> simp [Block.out, Block.setBuf, h]
  | ni i a => rfl

@[simp] theorem Block.owedAt_setBuf (b : Block) (n q v : Nat) (x : VcBuf) (r : Port) (w : Nat) :
    (b.setBuf n q v x).owedAt r w = b.owedAt r w := by
  cases r with
  | node m p => by_cases h : n = m <;> simp [Block.owedAt, Block.setBuf, h]
  | ni i a => rfl

@[simp] theorem Block.out_setOut_self (b : Block) (o : Port) (x : OutPort) : (b.setOut o x).out o = x := by
  cases o <;> simp [Block.out, Block.setOut]

theorem Block.owedAt_setOut (b : Block) (o : Port) (x : OutPort) (r : Port) (w : Nat) : (b.setOut o x).owedAt r w = b.owedAt r w := by
  cases o with
  | node n p => cases r with
    | node m q => by_cases h : n = m <;> simp [Block.owedAt, Block.setOut, h]
    | ni i a => rfl
  | ni j c => cases r with
    | node m q => rfl
    | ni i a => by_cases h : j = i <;> simp [Block.owedAt, Block.setOut, h]

theorem Block.buf_setOut (b : Block) (o : Port) (x : OutPort) (n q v : Nat) : (b.setOut o x).buf n q v = b.buf n q v := by
  cases o with
  | node m p => by_cases h : m = n <;> simp [Block.buf, Block.setOut, h]
  | ni j c => rfl

/-! ### A buffer's candidacy (R97): only `cand` moves -/

/-- Two blocks whose input VCs differ at most in since when their heads have been candidates. -/
def Block.sameButCand (b b' : Block) : Prop :=
  (∀ n q v, (b'.buf n q v).flits = (b.buf n q v).flits ∧ (b'.buf n q v).rx = (b.buf n q v).rx ∧
    (b'.buf n q v).front.map (fun f => { f with cand := none }) = (b.buf n q v).front.map (fun f => { f with cand := none })) ∧
  (∀ o, b'.out o = b.out o) ∧ (∀ r w, b'.owedAt r w = b.owedAt r w) ∧
  ∃ ns, b' = { b with nodes := ns }

theorem Block.sameButCand_refl (b : Block) : b.sameButCand b :=
  ⟨fun _ _ _ => ⟨rfl, rfl, rfl⟩, fun _ => rfl, fun _ _ => rfl, b.nodes, rfl⟩

theorem Block.sameButCand_trans {a b c : Block} (h : a.sameButCand b) (h' : b.sameButCand c) : a.sameButCand c := by
  obtain ⟨h1, h2, h3, ns, h4⟩ := h
  obtain ⟨k1, k2, k3, ms, k4⟩ := h'
  refine ⟨fun n q v => ⟨(k1 n q v).1.trans (h1 n q v).1, (k1 n q v).2.1.trans (h1 n q v).2.1, (k1 n q v).2.2.trans (h1 n q v).2.2⟩,
    fun o => (k2 o).trans (h2 o), fun r w => (k3 r w).trans (h3 r w), ms, ?_⟩
  rw [k4, h4]

theorem Block.sameButCand_setBuf (b : Block) (n q v : Nat) (f : Front) (c : Option Nat) (h : (b.buf n q v).front = some f) :
    b.sameButCand (b.setBuf n q v { b.buf n q v with front := some { f with cand := c } }) := by
  refine ⟨fun m q' v' => ?_, fun o => by simp, fun r w => by simp, _, rfl⟩
  rw [Block.buf_setBuf]
  split
  · rename_i hk
    obtain ⟨rfl, hk⟩ := hk
    have : b.buf n q' v' = b.buf n q v := by unfold Block.buf; rw [hk]
    rw [this, h]
    exact ⟨rfl, rfl, rfl⟩
  · exact ⟨rfl, rfl, rfl⟩

/-- Refreshing a node's candidates changes nothing but since when its heads have been candidates. -/
theorem Block.refreshCand_sameButCand (b : Block) (n : Nat) : b.sameButCand (b.refreshCand n) := by
  unfold Block.refreshCand
  generalize inputVcs = l
  induction l generalizing b with
  | nil => exact b.sameButCand_refl
  | cons e l ih =>
    refine Block.sameButCand_trans ?_ (ih _)
    dsimp only
    cases h : (b.buf n e.1 e.2).front with
    | none => exact b.sameButCand_refl
    | some f => exact Block.sameButCand_setBuf b n e.1 e.2 f _ h

/-! ### Injection candidacy (R98) -/

theorem Block.refreshInj_spec (b : Block) (i : Nat) :
    (∀ o, (b.refreshInj i).out o = b.out o) ∧ (∀ r w, (b.refreshInj i).owedAt r w = b.owedAt r w) ∧
    (∀ j, ((b.refreshInj i).ni j).asm = (b.ni j).asm) ∧ (∃ ns, b.refreshInj i = { b with nis := ns }) := by
  unfold Block.refreshInj
  refine ⟨fun o => ?_, fun r w => ?_, fun j => ?_, _, rfl⟩
  · cases o with
    | node m p => rfl
    | ni j d => by_cases h : i = j <;> simp [Block.out, h]
  · cases r with
    | node m p => rfl
    | ni j d => by_cases h : i = j <;> simp [Block.owedAt, h]
  · by_cases h : i = j <;> simp [h]

end Sys2Proof.Machine
end

