-- ==== Sys2Proof/Tests/Slice0.lean ====
section
/-! SUPPORT. Tests: ill-formed commands, the spec's worked examples, and for every statement with hypotheses a state and operands
that meet them all. Expected values come from the spec. -/
open Sys2Proof Sys2Proof.Machine
namespace Sys2Proof.Slice0
set_option Elab.async false

/-! ### Small states -/

/-- The block right after reset, with `f` done to it. -/
def on (f : Block → Block) : State := { blk := f {} }
/-- Domain `d` is powered. -/
def up (d : Nat) (b : Block) : Block := b.modDom d (fun x => { x with up := true })
/-- SD serves, and the reset pins are high. -/
def serves (b : Block) : Block := { (up domSD b).s pgSTW STW_STATUS_READY 1 with pins := { porst := true } }
/-- Region 0 of NI `i`, set 0, grants group 0 every page. -/
def opens (i : Nat) (b : Block) : Block :=
  (((b.wr (pgNi i) 0x200 0x00100000).wr (pgNi i) 0x204 0x001FFF00).wr (pgNi i) 0x208 0x00010001).wr (pgNi i) 0x20C 0x0000FF01
/-- NI `i` holds `x`. -/
def ni (i : Nat) (x : Ni) : State := on fun b => b.setNi i x
def pk (opc : Nat) (mid : Nat := 0) (len : Nat := 0) (flits : List (BitVec 128 × Bool) := []) : Packet :=
  { dst := 0, src := 200, opc, cls := 3, len, mid, flits, tag := 5 }
def rq (opc : Nat) : Request := { opc, cls := 3, len := 15, dst := 200 }
def tx (rsp : Option Rsp := none) : Txn := { tag := 5, req := rq oRD, pkt := pk oRD, space := 2, issued := some 3, rsp }
def front : Front := { cls := 1, rep := 0, dst := 5, nport := 0, eport := 0, cand := some 7 }
/-- Node 111 has one candidate for its output 4, whose wires are busy. -/
def sole : State := on fun b => ((b.setBuf 111 3 8 { flits := [(mkFlit 1 0 3 false, [])], front := some { front with nport := 4 } }).modOut
  (.node 111 4) (fun o => { o with driven := some 7 })).s (pgNode 111) NODE_LINK_LOCAL_EN 1
theorem one_of {α : Type} {l : List α} {d : α} (h : l.length = 1) : l = [l.headD d] := by
  match l, h with
  | [_], _ => rfl
/-- A commit record of NI `i` for slot 3. -/
def rc (i : Nat) (r : CRec) : State := on fun b => b.modRec i 3 (fun _ => r)
/-- Slot 3 of the CSQ, in state `st`, with its hidden part `x`. -/
def sl (st : Nat) (x : Slot) : Block := (({} : Block).setSlotState 3 st).modSlot 3 (fun _ => x)
/-- An epoch change at step `st`. -/
def chg (st : Nat) : State := on fun b => { b with stw := { change := some { cause := .audit, step := st } } }
/-- Slot 3 is in host mode with targets 0, 32, ..., 192, its host port reachable, both abort nets tested, the time traceable, and T 0.5 ms ahead. -/
def ready (st : Nat) : State := on fun b =>
  let b := (List.range 7).foldl (fun b j => b.wr pgCSQ (CSQ_TARGETS 3 + 4 * j) 1) ((up domSD b).setSlotState 3 st)
  let b := ((b.s pgCSQ (CSQ_SLOT_MODE 3) 1).s (pgNi 206) (NI_REACH 200) 0).s64 pgCSQ (CSQ_RELEASE_T 3) 500000
  ((b.s pgCSQ CSQ_ABORT_NET_A_OK 1).s pgCSQ CSQ_ABORT_NET_B_OK 1).s pgTU TU_STATUS_STATE tsTRACEABLE
/-- What slot 3 asks for when `v` commands it. -/
def asks (s : State) (v : Word) (launch : Bool) : Asked × Sys := Sys.askFrond { blk := s.blk.writeCtrl 3 v, mem := s.mem } 3 launch
/-- The log is enabled and active, and `e` is its hidden part. -/
def log (e : Evl) : Block := ({ evl := e : Block }.s pgEVL EVL_STATUS_ACTIVE 1).s pgEVL EVL_POLICY_ENABLE 1
def rec0 : RecData := { typ := tyBOOT, body := [] }
/-- The mailbox is open and free, and its arguments are `a0`, `a1`, `a2`. -/
def mbox (a0 a1 a2 : Word) : Block :=
  (((serves {}).wr pgSTW (STW_MBOX_ARG 0) a0).wr pgSTW (STW_MBOX_ARG 1) a1).wr pgSTW (STW_MBOX_ARG 2) a2
def ev (lvl : Nat) : Event := { src := 1023, cls := 15, lvl, detail := 0 }
/-- That event in its packet. -/
def evPk (cls lvl : Nat) : Packet := eventPkt 208 (eventBytes { ev lvl with cls } lvl 0)
def lane (sent : Option (Nat × Nat)) : State :=
  on fun b => { up 15 b with stw := { lanes := [{ n := 111, q := 3, w := 143, sent }] } }
/-- The image of a configuration without records. -/
def cfg0 : List Byte := [0x46, 0x43, 0x44, 0x4E, 1] ++ List.replicate 27 0

/-! ### The operand check: one ill-formed term for each check, and the terms at the bounds -/

theorem test_ill_formed_fabric :
    [ Instr.flitReceive (.node 13 0) 0 [], .flitReceive (.node 12 0) 0 [.entry 112 0 0 0], .flitReceive (.ni 216 0) 0 [], .creditReturn (.node 0 7) 0, .creditReturn (.node 0 4) 9,
      .escapeWaitExpiry 0 2 0, .escapeWaitExpiry 0 0 9, .outputArbitration (.ni 0 1), .headAged (.node 112 0) 0,
      .headAged (.node 0 4) 9, .arbActivation 112, .bankPortGrant (.bank 8) [], .bankPortGrant (.xbar 0) [99], .requestInject 216 3 none, .requestDeliver 216,
      .endpointResponse 216 0 0 [], .endpointResponse 0 0 16 [], .responseAccept 216, .responseDelivered 216 0,
      .responseTimeout 216 0, .tagHoldExpiry 216 0, .sinkWdogExpiry 216 1, .sinkResume 216, .lpPwrOkFall 192, .lpPwrOkRise 192,
      .msgQueueTaken 4, .hostEventDeliver 4, .serviceRead (2 ^ 48) 0, .serviceRead 0 256, .serviceWrite (2 ^ 48) [0],
      .serviceWrite 0 [], .serviceWrite 0 (List.replicate 257 0), .serviceBadCommand 256, .serviceBadCommand 2,
      .serviceBadCommand 3, .serviceBadCommand 5, .serviceFrameCut (.read 0 256 0 false), .debugAccess (2 ^ 48) 0 false,
      .epochVerify (some 112), .routeTableAudit [.esc 0 2 0], .nodeFlush 112 true true, .linkWireFault 112 0, .linkWireFault 0 4, .linkWireFault 0 2,
      .rhizineChainBreak 112 ].all (fun i => !i.wellFormed) = true := by decide +kernel
theorem test_ill_formed_commits :
    [ Instr.latticeWordReceive 112 0, .cellSourceFault 112, .echoRound 112 0 0 0 false false, .echoRound 0 3 0 0 false false,
      .timedStrobe 112, .csqOpen 4 0, .csqLaunch 4 0, .csqAbort 4 0, .streamPacketSend 8 0, .streamPacketSend 0 2,
      .prepareReceive 216, .stageReceive 216, .stageEndReceive 216, .voteWaitExpiry 216 0, .voteWaitExpiry 0 4,
      .recordNoPrepareExpiry 216 0, .recordNoPrepareExpiry 0 4, .recordNoTExpiry 216 0, .recordNoTExpiry 0 4,
      .shadowLoadStart 192 0, .shadowLoadStart 0 4, .shadowLoadComplete 192 0, .shadowLoadComplete 0 4,
      .shadowLoadParityError 192 0, .shadowLoadParityError 0 4, .voteCutoff 4, .armReceive 216, .guardDeadline 4,
      .openLimitExpiry 4, .abortMsgReceive 216, .abortLineReceive 216 0 true true, .abortLineReceive 0 4 true true,
      .abortLineInvalid 216 0 0 false, .abortLineInvalid 0 4 0 false, .abortLineInvalid 0 0 2 true, .commitRelease 216 0, .commitRelease 0 4,
      .ruleSetSwap 216, .applyAckReceive 192 0 0, .applyAckReceive 0 4 0, .applyAckTimeout 192 0, .applyAckTimeout 0 4,
      .reportDeadline 4, .abortNetPeriodicTest 2 0, .abortNetPeriodicTest 0 4, .abortTestReturn 2 0 0, .abortTestReturn 0 4 0,
      .abortTestTimeout 2 0, .abortTestTimeout 0 4, .frondSeal 8 0, .sealComplete 8, .frondRetire 8 0, .retireComplete 8,
      .lpApplyAckFall 192, .bothInvalidCheck 216 0, .bothInvalidCheck 0 4 ].all (fun i => !i.wellFormed) = true := by decide +kernel
theorem test_ill_formed_units :
    [ Instr.scrubRead 12 [], .eventReceive 1024 0, .eventReceive 0 16, .ackTimerExpiry 16, .entryContinue 25,
      .selftestEnd 24 0 0 0 [] true, .wakePowerGood 25 [], .wakeInclude 25, .wakeTimeout 25 1, .wakeTimeout 0 0,
      .wakeTimeout 0 5, .wakeRetry 25, .wakePin 4, .railPgFall 4, .railFallResume 4, .railConfirm 4 0 0, .railConfirmTimeout 4 0,
      .laneSpare 112 0 0, .laneSpare 0 4 0, .laneSpare 0 2 0, .laneSpareSwitchRx 112 0, .laneSpareSwitchRx 0 4,
      .laneSpareSwitchRx 0 2, .marginTrim 112 7 0 0, .marginTrim 0 2 0 0, .sampleClear 216, .pageCommit 112, .shadowDiscard 0x600,
      .pgRise 4 ].all (fun i => !i.wellFormed) = true := by decide +kernel
theorem test_well_formed_at_the_bounds :
    [ Instr.flitReceive (.node 111 2) 0 [.entry 111 1 216 8, .esc 0 1 32, .flit 111 2 8 3 144], .creditReturn (.ni 215 0) 8, .escapeWaitExpiry 111 3 8, .bankPortGrant (.bank 7) [],
      .requestInject 215 3 none, .endpointResponse 215 9 15 [], .lpPwrOkFall 191, .serviceRead (2 ^ 48 - 1) 255,
      .serviceWrite (2 ^ 48 - 1) (List.replicate 256 0), .serviceBadCommand 255, .epochVerify (some 111), .echoRound 111 2 0 0 true true,
      .csqLaunch 3 0, .streamPacketSend 7 1, .abortLineInvalid 215 3 1 true, .applyAckReceive 191 3 0, .abortTestReturn 1 3 255,
      .frondSeal 7 0, .scrubRead 11 [], .eventReceive 1023 15, .entryContinue 24, .selftestEnd 23 0 0 0 [] true,
      .wakeTimeout 24 4, .railConfirm 3 0 0, .marginTrim 111 7 0 0, .pageCommit 0x3FF ].all Instr.wellFormed = true := by decide +kernel

/-! ### The spec's worked examples: each expected value stands in the file named -/

/-- 01, locating LE151 and LE37; its dual-homing example: HP0's packet to DST 206 leaves on column 6. -/
theorem test_places : place 151 0 = some (87, 1) ∧ place 37 0 = some (22, 1) ∧ neighbour 21 0 = some 22 ∧
    (on fun b => b.s (pgNode 6) NODE_EPOCH_LIVE 3).blk.attachFor 200 { dst := 206, src := 200, opc := oRD, cls := 4, len := 7 } = 0 := by
  decide +kernel
/-- 02, a register read: the head flits of the request and of its response. -/
theorem test_head_of_read :
    ({ stamp := 100000, mid := 0x80301000, dst := 206, src := 200, opc := oRD, cls := 4, len := 7, tag := 0x12 } : Packet).headNat =
      0x000186A0000080301000673201001C24 ∧
    ({ stamp := 100030, mid := 0x000186A00000, dst := 200, src := 206, opc := oRSP_RD, cls := 0, len := 7, tag := 0x12 } : Packet).headNat =
      0x000186BE000186A000006433B0001C24 := by decide +kernel
/-- 02, a telemetry posted write. -/
theorem test_head_of_posted_write :
    ({ stamp := 500000000, mid := 0x00CA00400000, dst := 201, src := 37, opc := oWRP, cls := 1, len := 39, rep := 1 } : Packet).headNat =
      0x1DCD650000CA00400000648944409C01 ∧ dataFlitCount oWRP 39 0 = 3 := by decide +kernel
/-- 02, a STAGE packet, and the bytes of its entry 64. -/
theorem test_head_of_stage :
    ({ stamp := 0x1DCD6532, mid := commitAddr 0x0153 64 0, dst := 37, src := 193, opc := oSTAGE, cls := 2, qos := 12, len := 255 } :
      Packet).headNat = 0x1DCD653201530000040012B050B3FC00 ∧ dataFlitCount oSTAGE 255 0 = 16 ∧
    leBytes 8 0x0500007A3C000210 = [0x10, 0x02, 0x00, 0x3C, 0x7A, 0x00, 0x00, 0x05] := by decide +kernel
/-- 02 R50-R52: what an access at the end of the frame store, and one at the end of a register page, gets. -/
theorem test_ends : addressCheck 199 oRD 0x43FFFFF0 255 = stLONG ∧ addressCheck 199 oWR 0x43FFFFF0 255 = stDECODE ∧
    addressCheck 206 oWR 0x80301FF0 31 = stDECODE := by decide +kernel
/-- 04, a PG_COMMIT near a frame boundary. -/
theorem test_frame_boundary : frameBoundaryAfter 1000000000010 = 1000000001024 ∧ frameBoundaryAfter 1000000001010 = 1000000002048 := by
  decide
/-- 05, one instant in three forms; 06, T of the full-switch commit. -/
theorem test_stamp_forms : stampAt (1735000000500000000 * 256 + 0x40) = 0x19DA7FF01DCD6500 ∧
    1735000000500000000 % 2 ^ 32 = 0xDB1AE500 ∧ nsOfStamp 0x19DA80090EE6B730 = 1735000100250001200 := by decide +kernel
/-- 05, step after holdover: S, the relabelling by q = 5, and the launches that TU_STEP_AUTH refuses and schedules. -/
theorem test_step_after_holdover :
    ({ now := 1735000001300000100 * 256 } : Block).secondFrame = 1735000001300021248 * 256 ∧ stepQ 316032 = 5 ∧
    relabel (1735000001300021248 * 256) 5 = 1735000001300022528 * 256 := by decide +kernel
/-- 07, sealing bank 1 of frond 42; 08, the record's slot; 17, the wear entries of element 2370. -/
theorem test_addresses_of_frond_42 : bankAddr 1 0x31000 = 0x40831000 ∧ descAddr 1 42 = 0x40FE1500 ∧
    logAddr 0x41A07 = 0x501A0700 ∧ pendAddr 2370 = 0x6042CA10 ∧ wearAddr 1 2370 = 0x600A578C := by decide +kernel
/-- 07, the arguments of the SEAL of frond 42. -/
theorem test_seal_of_frond_42 :
    (match exec (.frondSeal 1 0x002A0001) (on fun b => (b.wr (pgFs 1) 0x048 0x003100C4).wr (pgFs 1) 0x04C 0x180007FF) with
     | .next t => (t.blk.fsb 1).sealing | _ => none) =
    some { frond := 42, base := 196, size := 49, n := 24, mask := 0xFF, gen := 7 } := by decide +kernel
/-- 09, reading TU_STATUS in HOLD: the bytes on MISO, and the STATUS frame before. -/
theorem test_service_read_in_hold :
    (match exec (.serviceRead 0x80302050 3) (on fun b => { (opens 207 b).wr pgTU 0x050 0x12000019 with pins := { porst := true } }) with
     | .next t => t.blk.spOut | _ => []) = [0xA0, 0x19, 0x00, 0x00, 0x12] ∧
    (match exec .serviceStatus (on fun b => { b.s pgPM (PM_DOMAIN_STATE 24) 2 with pins := { porst := true } }) with
     | .next t => t.blk.spOut | _ => []) = [0x50] := by decide +kernel
/-- 10, production and maintenance rules for LE37: whom the window over its endpoint window lets read and write. -/
theorem test_window_of_le37 :
    ({ w0 := 0x02600000, w1 := 0x6000, w2 := 0x400B4003 } : Window).grants oRD 1 0x2600000000 = true ∧
    ({ w0 := 0x02600000, w1 := 0x6000, w2 := 0x400B4003 } : Window).grants oRD 3 0x26FFFFFFFF = false ∧
    ({ w0 := 0x02600000, w1 := 0x6000, w2 := 0x400B4003 } : Window).grants oWR 3 0x26FFFFFFFF = true ∧
    ({ w0 := 0x02600000, w1 := 0x6000, w2 := 0x400B4003 } : Window).grants oWR 3 0x2700000000 = false := by decide +kernel
/-- 11, a poisoned word in frond 42: writing it whole cures it. -/
theorem test_write_cures_poison :
    let w : Sys := { blk := { mm := { poison := [(0x40837B80, 1)] } }, mem := { flags := [(0x40837B8, { valid := true, poison := true })] } }
    (w.readWord 0x40837B80).2.1 = stPOISON ∧ (w.write 0x40837B80 (List.replicate 16 1)).blk.mm.poison = [] ∧
    ((w.write 0x40837B80 (List.replicate 16 1)).readWord 0x40837B80).2.1 = stOK := by decide +kernel
/-- 12, poisonings in bank 3, from the first report on: L1 with its timer, then L2 for the unacknowledged repeat. -/
theorem test_poisonings_in_bank_3 :
    let e : Event := { src := 905, cls := 5, lvl := 1, detail := 3 }
    let s := on fun b => { b.wr pgFC (0x080 + 4 * 5) 0x1D0003E8 with events := [e] }
    (match exec (.eventReceive 905 5) s with
     | .next t => (t.blk.fcLevel 5, t.blk.fcTimer 5,
         match exec (.eventReceive 905 5) { t with blk := { t.blk with events := [e] } } with | .next u => u.blk.fcLevel 5 | _ => 9)
     | _ => (9, none, 9)) = (1, some 256000000, 2) := by decide +kernel
/-- 13, LD5 to RETAIN: PM_REQ, and its event source. -/
theorem test_ld5_to_retain : srcPM 5 = 973 ∧
    (match exec (.domainEntry 0x24000020) (on id) with
     | .next t => (t.blk.domPhase 5, (t.blk.dom 5).target, t.blk.domPhase 4) | _ => (9, 9, 9)) = (1, 1, 0) := by decide +kernel
/-- 14, sparing wire 73 between N(7,1) and N(8,1): the sender's map, then the receiver's. -/
theorem test_sparing_wire_73 : srcNode 22 0 = 88 ∧
    (match exec (.laneSpare 22 2 73) (on fun b =>
        { up (domOfNode 21) (up (domOfNode 22) b) with stw := { lanes := [{ n := 22, q := 2, w := 73 }] } }) with
     | .next t => (t.blk.rd 21 0x100, match exec (.laneSpareSwitchRx 22 2) t with | .next u => u.blk.rd 22 0x118 | _ => 0)
     | _ => (0, 0)) = ((0xFFFFFF49, 0xFFFFFF49) : Word × Word) := by decide +kernel
/-- 16, the image of two records: ESC_WAIT of all nodes at stage 1, IN_DELAY at stage 2. -/
theorem test_two_records :
    cfgRecords 4 ((leBytes 4 0x01000040 ++ leBytes 4 0x0001C001 ++ leBytes 8 0x0A00) ++
      (leBytes 4 0x0230205C ++ leBytes 4 0x00000401 ++ leBytes 8 0x0180)) =
    some [{ reg := 0x40, stage := 1, pages := 112, words := [0x0A00] }, { reg := 0x30205C, stage := 2, pages := 1, words := [0x0180] }] := by
  decide +kernel
/-- 18, decoding addresses. -/
theorem test_address_map : dstOf 0x00041000 = some 204 ∧ dstOf 0x40837B80 = some 193 ∧ dstOf 0x80125200 = some 37 ∧
    dstOf 0x80415040 = some 204 ∧ dstOf 0x80016170 = some 36 ∧ dstOf 0x803FF048 = some 214 ∧ dstOf 0xC9011A0700 = some 200 ∧
    area (0x80500000 - 0x1000) = .unmapped ∧
    requestOk 0 { opc := oRD, cls := 3, len := 3, addr := 0xD800000000 } = false := by decide +kernel
/-- 18, the identities of NI 37's page, of node 21's counter page and of page 0x308. -/
theorem test_page_identities : Sys.view { blk := {}, mem := {} } 0x125 0 = 0x02025101 ∧ Sys.view { blk := {}, mem := {} } 0x415 0 = 0x11015101 ∧
    Sys.view { blk := {}, mem := {} } 0x308 0x01C = 0x00006BC8 := by decide +kernel
/-- 19, setting ADVANCE. -/
theorem test_advance :
    let b := ({} : Block).wr pgTU 0x060 0x03406403
    (b.g pgTU TU_PPS_OUT_EN, b.g pgTU TU_PPS_OUT_ONLY_TRACEABLE, b.g pgTU TU_PPS_OUT_WIDTH, b.g pgTU TU_PPS_OUT_ADVANCE) =
      (1, 1, 100, 0x340) := by decide +kernel
/-- The check value of CRC-32C (16 R475): the CRC of the digits 1 to 9. -/
theorem test_crc32c : crc32cOf ((List.range 9).map (fun j => BitVec.ofNat 8 (0x31 + j))) = 0xE3069283 := by decide +kernel

/-! ### What meets the hypotheses of each statement, clause by clause -/

theorem test_meets_FlitsAndCredits :
    (∃ (s : State) (i a : Nat) (src : Port) (f : Flit) (x : Asm), upstream (.ni i a) = some src ∧ (s.blk.out src).driven =
      some f ∧ (s.blk.out src).owner = none ∧ Flit.isHead f = false ∧ Flit.isLast f = false ∧ Flit.vc f < 9 ∧ AMap.get {}
      (s.blk.ni i).asm (vcKey a (Flit.vc f)) = x ∧ x.flits ≠ [] ∧ x.discard = false ∧ x.flits.length < 17) ∧
    (∃ (s : State) (n q : Nat) (src : Port) (f : Flit) (r : RxPkt), upstream (.node n q) = some src ∧ portExists n q = true ∧
      (s.blk.out src).driven = some f ∧ (s.blk.out src).owner = none ∧ s.blk.wrongWires (.node n q) f 0 s.blk.fresh.1 = [] ∧
      s.blk.idleSpare (.node n q) = false ∧ s.blk.portOn n q = true ∧ Flit.isHead f = false ∧ Flit.isLast f = false ∧ Flit.vc
      f < 9 ∧ (s.blk.buf n q (Flit.vc f)).rx = some r ∧ r.discard = false ∧ r.nData < 16 ∧ (s.blk.buf n q (Flit.vc f)).front
      ≠ none ∧ s.blk.on pgMM MM_FLIPMASK_ARM = false) ∧
    (∃ (o r : Port) (v : Nat), portOk o = true ∧ downstream o = some r ∧ v < 9) ∧
    (∃ (s : State) (n p : Nat) (f : Flit), portExists n p = true ∧ (s.blk.out (.node n p)).driven = some f) :=
  ⟨⟨on fun b => (b.setNi 215 { asm := [(8, { flits := [mkFlit 0 0 8 false] })] }).modOut (.node 7 6) (fun o =>
     { o with driven := some (mkFlit 5 1 8 false) }), 215, 0, .node 7 6, mkFlit 5 1 8 false,
     { flits := [mkFlit 0 0 8 false] }, by decide +kernel⟩,
   ⟨on fun b => ((b.setBuf 111 3 8 { rx := some { cls := 1, rep := 1, dst := 5, nData := 15 }, front := some front }).modOut
     (.node 97 1) (fun o => { o with driven := some (mkFlit 5 1 8 false) })).s (pgNode 111) NODE_LINK_ENABLE 15, 111, 3,
     .node 97 1, mkFlit 5 1 8 false, { cls := 1, rep := 1, dst := 5, nData := 15 }, by decide +kernel⟩,
   ⟨.node 0 0, .node 1 2, 8, by decide +kernel⟩,
   ⟨sole, 111, 4, 7, by decide +kernel⟩⟩

theorem test_meets_NodeTimers :
    (∃ (s : State) (n q v : Nat) (f : Front), portExists n q = true ∧ v < 9 ∧ (s.blk.buf n q v).front = some f ∧ f.started =
      false ∧ f.onEsc = false ∧ f.mayEsc = false) ∧
    (∃ (s : State) (n q v since : Nat) (f : Front), portExists n q = true ∧ v < 9 ∧ (s.blk.buf n q v).front = some f ∧
      f.started = false ∧ f.cand = some since) ∧
    (∃ (s : State) (i a c since : Nat) (p : Packet) (ps : List Packet), portOk (.ni i a) = true ∧ 1 ≤ c ∧ c ≤ 4 ∧ AMap.get
      none (s.blk.ni i).injCand c = some since ∧ (s.blk.ni i).queue c = p :: ps ∧ s.blk.attachFor i p = a) ∧
    (∃ (s : State) (n at' : Nat), n < 112 ∧ (s.blk.node n).arbAt = some at') :=
  ⟨⟨on fun b => b.setBuf 0 0 8 { front := some front }, 0, 0, 8, front, by decide +kernel⟩,
   ⟨on fun b => b.setBuf 0 0 8 { front := some front }, 0, 0, 8, 7, front, by decide +kernel⟩,
   ⟨ni 215 { injCand := [(4, some 7)], tx := [(4, [pk oRD])] }, 215, 0, 4, 7, pk oRD, [], by decide +kernel⟩,
   ⟨on fun b => b.modNode 111 (fun n => { n with arbAt := some 9 }), 111, 9, by decide +kernel⟩⟩

theorem test_meets_FlushAndBreaks :
    (∃ (s : State) (n e : Nat) (even odd : Bool), n < 112 ∧ e < 2 ∧ (if e = 0 then even else odd) = true ∧ s.blk.flushAllowed
      n e = true ∧ (∀ q, q < 7 → ∀ v, v < 9 → ∀ h ∈ (s.blk.buf n q v).flits, h.2 = [])) ∧
    (∃ (s : State) (n e : Nat), n < 112 ∧ e = s.blk.nodeCur n ∧ (isSpine n = false ∨ s.blk.domPhase domSD ≠ 2)) ∧
    (∃ (s : State) (n p j : Nat), n < 112 ∧ p < 4 ∧ linkIndex n p = some j ∧ s.blk.pageUp (pgNode n) = true) ∧
    (∃ (s : State) (n : Nat), n < 112 ∧ s.blk.stw.brk = none) :=
  ⟨⟨on fun b => b.setBuf 111 2 8 { flits := [(mkFlit 1 0 8 false, [])] }, 111, 1, false, true, by decide +kernel⟩,
   ⟨on id, 111, 0, by decide +kernel⟩,
   ⟨on (up 15), 111, 3, 201, by decide +kernel⟩,
   ⟨on id, 111, by decide +kernel⟩⟩

theorem test_meets_Transactions :
    (∃ (s : State) (i tag d : Nat) (r : Request), i < 216 ∧ s.blk.canPresent i = true ∧ AMap.get [] (s.blk.ni i).waitq r.cls
      = [] ∧ takesTag r.opc = true ∧ freeTag i (s.blk.ni i) = some tag ∧ (s.blk.ni i).spaceUsed + spaceFor r ≤ rspSpace i ∧
      requestDst r = some d ∧ requestOk i r = true ∧ s.blk.niShut i = false ∧ s.blk.reach i d = rchOK) ∧
    (∃ (s : State) (i : Nat) (p : Packet) (rest : List Packet) (x : Txn), i < 216 ∧ takeFirst (fun q => isResponse q.opc)
      (s.blk.ni i).rx = some (p, rest) ∧ (s.blk.ni i).txns.find? (fun y => y.awaits p.tag) = some x ∧ p.flits.length =
      dataFlitCount p.opc p.len p.status ∧ p.status < 12 ∧ p.poisoned = false ∧ s.blk.stuck i = false) ∧
    (∃ (s : State) (i tag : Nat) (x : Txn), i < 216 ∧ s.blk.stuck i = false ∧ (s.blk.ni i).ended = [] ∧ (s.blk.ni
      i).txns.find? (fun y => y.tag == tag && y.rsp.isSome) = some x) ∧
    (∃ (s : State) (i tag : Nat) (x : Txn), i < 216 ∧ s.blk.stuck i = false ∧ (s.blk.ni i).ended.find? (fun y => y.tag ==
      tag) = some x ∧ ((s.blk.ni i).ended.any (fun y => y.stuck) = true → (s.blk.ni i).ended.find? (fun y => y.stuck && y.tag
      == tag) = some x)) :=
  ⟨⟨on fun b => ((up 0 b).s (pgNi 0) NI_INFO_LIVE 1).s (pgNi 0) (NI_REACH 200) 0, 0, 0, 200, rq oMSG, by decide +kernel⟩,
   ⟨ni 215 { rx := [pk oRSP_RD 0 15 [(7, false)]], txns := [tx] }, 215, pk oRSP_RD 0 15 [(7, false)], [], tx,
     by decide +kernel⟩,
   ⟨ni 215 { txns := [tx (some { status := 0, hdr := pk oRSP_RD })] }, 215, 5, tx (some { status := 0, hdr := pk oRSP_RD }),
     by decide +kernel⟩,
   ⟨ni 215 { ended := [{ tx with stuck := true }] }, 215, 5, { tx with stuck := true }, by decide +kernel⟩⟩

theorem test_meets_PoisonedReadResponse :
    (∃ (s : State) (i : Nat) (p : Packet) (rest : List Packet) (x : Txn), i < 216 ∧ takeFirst (fun q => isResponse q.opc)
      (s.blk.ni i).rx = some (p, rest) ∧ (s.blk.ni i).txns.find? (fun y => y.awaits p.tag) = some x ∧ p.opc = oRSP_RD ∧
      p.flits.length = dataFlitCount p.opc p.len p.status ∧ p.poisoned = true ∧ s.blk.stuck i = false) :=
  ⟨ni 215 { rx := [pk oRSP_RD 0 15 [(7, true)]], txns := [tx] }, 215, pk oRSP_RD 0 15 [(7, true)], [], tx, by decide +kernel⟩

theorem test_meets_ResponseTimers :
    (∃ (s : State) (i tag t0 : Nat) (x : Txn), i < 216 ∧ (s.blk.ni i).txns.find? (fun y => y.awaits tag && y.issued.isSome) =
      some x ∧ x.issued = some t0 ∧ s.blk.stuck i = false) ∧
    (∃ (s : State) (i tag : Nat) (h : Nat × Nat), i < 216 ∧ (s.blk.ni i).heldTags.find? (fun z => z.1 == tag) = some h) :=
  ⟨⟨ni 215 { txns := [tx] }, 215, 5, 3, tx, by decide +kernel⟩,
   ⟨ni 215 { heldTags := [(5, 9)] }, 215, 5, (5, 9), by decide +kernel⟩⟩

theorem test_meets_TargetsAndBanks :
    (∃ (s : State) (i : Nat) (p : Packet) (rest : List Packet), i < 216 ∧ takeFirst (fun q => q.isRequest i &&
      !(q.forEndpoint && s.blk.resuming i)) (s.blk.ni i).rx = some (p, rest) ∧ p.opc = oPROBE ∧ p.flits = []) ∧
    (∃ (s : State) (i idx st : Nat) (p : Packet), i < 216 ∧ st < 16 ∧ (s.blk.ni i).toEnd[idx]? = some p) ∧
    (∃ (s : State) (hp : Nat) (p : Packet) (rest : List Packet), hp < 4 ∧ (s.blk.ni (200 + hp)).msgq = p :: rest ∧
      s.blk.resuming (200 + hp) = false) ∧
    (∃ (s : State) (m : MemPort) (asks : List Nat) (ws : List MemTxn) (x : MemTxn), memPortOk m = true ∧ asksOk m asks = true
      ∧ ws = s.blk.waitingAt m ++ asks.map (fun a => { who := a, qos := masterQos a, job := .own }) ∧ (s.blk.port (portKey
      m)).pick ws = some x) :=
  ⟨⟨ni 0 { rx := [pk oPROBE] }, 0, pk oPROBE, [], by decide +kernel⟩,
   ⟨ni 215 { toEnd := [pk oRD] }, 215, 0, 15, pk oRD, by decide +kernel⟩,
   ⟨ni 203 { msgq := [pk oMSG] }, 3, pk oMSG, [], by decide +kernel⟩,
   ⟨on fun b => b.modPort 7 (fun _ => { wait := [{ who := 0, qos := 0, job := .access (pk oRD) }] }), .bank 7, [],
     [{ who := 0, qos := 0, job := .access (pk oRD) }], { who := 0, qos := 0, job := .access (pk oRD) }, by decide +kernel⟩⟩

theorem test_meets_SinkWatchdog :
    (∃ (s : State) (i cause t0 : Nat), i < 216 ∧ s.blk.niUp i = true ∧ s.blk.stuck i = false ∧ s.blk.offered i cause = some
      t0) ∧
    (∃ (s : State) (i : Nat), i < 216 ∧ s.blk.niUp i = true ∧ s.blk.stuck i = true ∧ s.blk.lpDown i = false) ∧
    (∃ (s : State) (i : Nat), i < 192 ∧ s.blk.lpPwr i = true) ∧
    (∃ (s : State) (i : Nat), i < 192 ∧ s.blk.lpPwr i = false) :=
  ⟨⟨on fun b => (up 24 b).setNi 203 { msgq := [pk oMSG] }, 203, 4, 0, by decide +kernel⟩,
   ⟨on fun b => (up 24 b).s (pgNi 215) NI_SINK_WDOG_STUCK 1, 215, by decide +kernel⟩,
   ⟨on fun b => { b with pins := { lpPwr := [191] } }, 191, by decide +kernel⟩,
   ⟨on (up 15), 191, by decide +kernel⟩⟩

theorem test_meets_HostEvents :
    (∃ (s : State) (hp line : Nat) (p : Packet) (rest : List Packet), hp < 4 ∧ takeFirst (fun q => q.opc == oEVENT) (s.blk.ni
      (200 + hp)).rx = some (p, rest) ∧ line = leNat (p.bytes 1) % 4) ∧
    (∃ (s : State) (p : Packet) (rest : List Packet) (pg off : Nat), takeFirst Packet.forImage (s.blk.ni 212).rx = some (p,
      rest) ∧ area p.addr = .page pg off ∧ s.blk.safeRefuses p = false ∧ s.blk.on pgPM (PM_DOMAIN_IMG_VALID (domOfPage pg)) =
      true ∧ p.flits = [] ∧ pageShape pg off p.len = true ∧ p.peri = stOK) :=
  ⟨⟨ni 203 { rx := [pk oEVENT 0 0 [(2, false)]] }, 3, 2, pk oEVENT 0 0 [(2, false)], [], by decide +kernel⟩,
   ⟨on fun b => (b.s pgPM (PM_DOMAIN_IMG_VALID 0) 1).setNi 212 { rx := [pk oRD 0x80000000 3] }, pk oRD 0x80000000 3, [], 0,
     0, by decide +kernel⟩⟩

theorem test_meets_ServiceAndDebugPorts :
    (∃ (s : State) (addr len p off : Nat), addr < 2 ^ 48 ∧ len < 256 ∧ s.blk.pins.porst = true ∧ area addr = .page p off ∧
      servicePage p = true ∧ addressCheck (servingNi p) oRD addr len = stOK ∧ s.blk.accessVerdict (servingNi p) none 0 true
      oRD addr len = stOK) ∧
    (∃ (s : State) (addr p off : Nat) (data : List Byte), addr < 2 ^ 48 ∧ 0 < data.length ∧ data.length ≤ 256 ∧
      s.blk.pins.porst = true ∧ area addr = .page p off ∧ servicePage p = true ∧ addressCheck (servingNi p) oWR addr
      (data.length - 1) = stOK ∧ s.blk.accessVerdict (servingNi p) none 0 true oWR addr (data.length - 1) = stOK) ∧
    (∃ (s : State) (addr len i st : Nat), addr < 2 ^ 48 ∧ len < 256 ∧ s.blk.pins.porst = true ∧ serviceNi addr = some i ∧ st
      ≠ stOK ∧ st = (if addressCheck i oRD addr len = stOK then s.blk.accessVerdict i none 0 true oRD addr len else
      addressCheck i oRD addr len)) ∧
    (∃ (s : State) (addr len : Nat), addr < 2 ^ 48 ∧ len < 256 ∧ s.blk.pins.porst = true ∧ serviceNi addr = none) ∧
    (∃ (s : State), s.blk.pins.porst = true) ∧
    (∃ (s : State) (cmd : Nat), cmd < 256 ∧ cmd ≠ 2 ∧ cmd ≠ 3 ∧ cmd ≠ 5 ∧ s.blk.pins.porst = true) ∧
    (∃ (s : State) (c : Cut), cutOk c = true ∧ s.blk.pins.porst = true ∧ (c = .beforeCommand ∨ (∃ addr len n out, c = .read
      addr len n out ∧ n < 8) ∨ (∃ addr len data, c = .write addr len data ∧ data.length ≤ len))) ∧
    (∃ (s : State) (addr len n : Nat), addr < 2 ^ 48 ∧ len < 256 ∧ s.blk.pins.porst = true ∧ 8 ≤ n) ∧
    (∃ (s : State) (addr len : Nat) (data : List Byte), addr < 2 ^ 48 ∧ len < 256 ∧ s.blk.pins.porst = true ∧ len <
      data.length) ∧
    (∃ (s : State) (addr : Nat), addr < 2 ^ 48 ∧ s.blk.pins.porst = true) ∧
    (∃ (s : State) (c : Instr), s.blk.pins.porst = false ∧ c.wellFormed = true ∧ ((∃ addr len, c = .serviceRead addr len) ∨
      (∃ addr data, c = .serviceWrite addr data) ∨ c = .serviceStatus ∨ (∃ cmd, c = .serviceBadCommand cmd) ∨ (∃ x, c =
      .serviceFrameCut x) ∨ (∃ addr data wr, c = .debugAccess addr data wr))) :=
  ⟨⟨on fun b => { opens 214 b with pins := { porst := true } }, pageAddr pgTOP 0xF00, 255, pgTOP, 0xF00, by decide +kernel⟩,
   ⟨on fun b => { opens 214 b with pins := { porst := true } }, pageAddr pgTOP 0x02C, pgTOP, 0x02C, [1, 2, 3, 4],
     by decide +kernel⟩,
   ⟨on fun b => { b with pins := { porst := true } }, pageAddr pgTOP 0xF00, 255, 214, stDENIED, by decide +kernel⟩,
   ⟨on fun b => { b with pins := { porst := true } }, 2 ^ 48 - 1, 255, by decide +kernel⟩,
   ⟨on serves, by decide +kernel⟩,
   ⟨on serves, 255, by decide +kernel⟩,
   ⟨on serves, .beforeCommand, by decide +kernel, by decide +kernel, .inl rfl⟩,
   ⟨on serves, 2 ^ 48 - 1, 255, 8, by decide +kernel⟩,
   ⟨on serves, 2 ^ 48 - 1, 0, [7], by decide +kernel⟩,
   ⟨on serves, 2 ^ 48 - 1, by decide +kernel⟩,
   ⟨on id, .serviceStatus, by decide +kernel, by decide +kernel, .inr (.inr (.inl rfl))⟩⟩

theorem test_meets_EpochChange :
    (∃ (s : State) (c : Cause) (rest : List Cause) (b : Block) (live : List Nat), s.blk.stwServes = true ∧ s.blk.safe = false
      ∧ s.blk.stw.change = none ∧ s.blk.stw.queue = c :: rest ∧ s.blk.causeStale c = false ∧ b = s.blk.prepareCause c ∧ live
      = b.liveSet (Block.wakeJoin c) ∧ (c.requested = true → ∀ n ∈ b.strandedNodes (Block.wakeJoin c) live,
      b.stw.stranded.contains n = true)) ∧
    (∃ (s : State) (ch : Change), s.blk.stw.change = some ch ∧ ch.step = 4 ∧ s.blk.verifyFails ((s.blk.epochNo + 1) % 2) =
      none) ∧
    (∃ (s : State) (ch : Change), s.blk.stw.change = some ch ∧ ch.step = 5 ∧ s.blk.mustWait ch.leaving = false) :=
  ⟨⟨on fun b => { serves b with stw := { queue := [.audit] } }, .audit, [], (on fun b =>
     { serves b with stw := { queue := [.audit] } }).blk.prepareCause .audit, ((on fun b =>
     { serves b with stw := { queue := [.audit] } }).blk.prepareCause .audit).liveSet (Block.wakeJoin .audit),
     by decide +kernel⟩,
   ⟨chg 4, { cause := .audit, step := 4 }, by decide +kernel⟩,
   ⟨chg 5, { cause := .audit, step := 5 }, by decide +kernel⟩⟩

theorem test_meets_EpochEnd :
    (∃ (s : State) (ch : Change), s.blk.stw.change = some ch ∧ ch.step = 6 ∧ s.blk.discardsSaturated s.blk.oldEpoch = false ∧
      s.blk.balanceSum s.blk.oldEpoch = 0) ∧
    (∃ (s : State) (ch : Change), s.blk.stw.change = some ch ∧ ch.step = 6) ∧
    (∃ (s : State) (n : Nat), s.blk.stwServes = true ∧ n < 112 ∧ s.blk.nodeLive n (s.blk.epochNo % 2) = true ∧
      s.blk.tableDiffers n (s.blk.epochNo % 2) = true ∧ s.blk.stw.queue.contains .audit = false) :=
  ⟨⟨chg 6, { cause := .audit, step := 6 }, by decide +kernel⟩,
   ⟨chg 6, { cause := .audit, step := 6 }, by decide +kernel⟩,
   ⟨on fun b => ((serves b).wr (pgNode 111) 0x400 7).s (pgNode 111) NODE_EPOCH_LIVE 3, 111, by decide +kernel⟩⟩

theorem test_meets_PowerRequests :
    (∃ (s : State) (w : Word) (c : Instr), (c = .domainEntry w ∨ c = .domainEntryTest w ∨ c = .sdEntry w) ∧ bit w.toNat 29 =
      true ∧ (having 26 (fun d => bit w.toNat d)) ≠ [] ∧ (bitsOf w.toNat 26 2 = 1 ∨ bitsOf w.toNat 26 2 = 2) ∧ s.blk.pmCheck
      (having 26 (fun d => bit w.toNat d)) (bitsOf w.toNat 26 2) (bit w.toNat 28) = 0) ∧
    (∃ (s : State) (w : Word) (service : Bool), bit w.toNat 29 = true ∧ bitsOf w.toNat 26 2 = 0 ∧ s.blk.pmCheck (having 26
      (fun d => bit w.toNat d)) 0 (bit w.toNat 28) = 0 ∧ s.blk.domState domSD = 0 ∧ s.blk.domPhase domSD = 0 ∧
      s.blk.wakeEnabled (if service then wSERVICE else wHOST) = true) ∧
    (∃ (s : State) (w : Word) (c : Instr) (code : Nat), (c = .domainEntry w ∨ c = .domainEntryTest w ∨ c = .sdEntry w ∨ (∃
      service, c = .domainWake w service)) ∧ bit w.toNat 29 = true ∧ (having 26 (fun d => bit w.toNat d)) ≠ [] ∧ code ≠ 0 ∧
      s.blk.pmCheck (having 26 (fun d => bit w.toNat d)) (bitsOf w.toNat 26 2) (bit w.toNat 28) = code) :=
  ⟨⟨on id, 0x38800001, .domainEntry 0x38800001, by decide +kernel⟩,
   ⟨on fun b => (b.s pgPM (PM_DOMAIN_STATE 23) 2).s pgPM PM_WAKE_EN_EN 0x40, 0x20800000, true, by decide +kernel⟩,
   ⟨on fun b => b.s pgPM (PM_DOMAIN_PHASE 23) 3, 0x28800000, .domainEntry 0x28800000, (on fun b => b.s pgPM (PM_DOMAIN_PHASE
     23) 3).blk.pmCheck [23] 2 false, .inl rfl, by decide +kernel⟩⟩

theorem test_meets_EntrySteps :
    (∃ (s : State) (d : Nat), d < 25 ∧ s.blk.domPhase d = 3 ∧ (s.blk.dom d).test = false ∧ (s.blk.dom d).latched = none ∧
      ((s.blk.dom d).target = 1 ∨ (s.blk.dom d).target = 2)) ∧
    (∃ (s : State), (s.blk.domPhase domSD = 1 ∨ s.blk.domPhase domSD = 2)) ∧
    (∃ (s : State) (d plan : Nat), d < 24 ∧ (s.blk.dom d).planRun = some plan ∧ (s.blk.dom d).atWake = false ∧ s.blk.g pgSTW
      STW_STATUS_STEP ≠ 6) ∧
    (∃ (s : State) (d : Nat), d < 24 ∧ s.blk.domPhase d = 11 ∧ s.blk.safe = false ∧ s.blk.includeAsked d = false ∧ s.blk.on
      pgPM (PM_DOMAIN_IMG_VALID d) = true) :=
  ⟨⟨on fun b => (b.modDom 24 (fun x => { x with target := 2 })).s pgPM (PM_DOMAIN_PHASE 24) 3, 24, by decide +kernel⟩,
   ⟨on fun b => b.s pgPM (PM_DOMAIN_PHASE 24) 2, by decide +kernel⟩,
   ⟨on fun b => b.modDom 23 (fun x => { x with planRun := some 1 }), 23, 1, by decide +kernel⟩,
   ⟨on fun b => (b.s pgPM (PM_DOMAIN_PHASE 23) 11).s pgPM (PM_DOMAIN_IMG_VALID 23) 1, 23, by decide +kernel⟩⟩

theorem test_meets_WakeAttempts :
    (∃ (s : State) (d : Nat), d < 25 ∧ s.blk.domPhase d = 9 ∧ (s.blk.dom d).up = false ∧ (s.blk.dom d).retry = false ∧
      (Sys.planAtStart { blk := s.blk, mem := s.mem } d).1 = none) ∧
    (∃ (s : State) (d reason : Nat), d < 25 ∧ 1 ≤ reason ∧ reason ≤ 4 ∧ (s.blk.domPhase d = 8 ∨ s.blk.domPhase d = 9) ∧
      (s.blk.dom d).up = false ∧ (s.blk.dom d).retry = false ∧ (s.blk.dom d).waitSd = false) ∧
    (∃ (s : State) (d : Nat), d < 25 ∧ (s.blk.dom d).retry = true ∧ s.blk.g pgPM (PM_DOMAIN_ATTEMPTS d) < 3) :=
  ⟨⟨on fun b => b.s pgPM (PM_DOMAIN_PHASE 24) 9, 24, by decide +kernel⟩,
   ⟨on fun b => (b.s pgPM (PM_DOMAIN_PHASE 24) 8).s pgPM (PM_DOMAIN_ATTEMPTS 24) 3, 24, 4, by decide +kernel⟩,
   ⟨on fun b => (b.modDom 24 (fun x => { x with retry := true })).s pgPM (PM_DOMAIN_ATTEMPTS 24) 2, 24, by decide +kernel⟩⟩

theorem test_meets_WakeSources :
    (∃ (s : State) (k : Nat), k < 4 ∧ s.blk.pins.porst = true ∧ s.blk.pins.frst = true ∧ s.blk.wakeEnabled (2 + k) = true ∧
      s.blk.domState domSD = 0 ∧ s.blk.domPhase domSD = 0) ∧
    (∃ (s : State), s.blk.on pgPM PM_WAKE_TIMER_HI_ARMED = true ∧ s.blk.wakeEnabled wTIMER = true ∧ s.blk.domState domSD = 0
      ∧ s.blk.domPhase domSD = 0) :=
  ⟨⟨on fun b => { b with pins := { porst := true } }.s pgPM PM_WAKE_EN_EN 0x20, 3, by decide +kernel⟩,
   ⟨on fun b => (b.s pgPM PM_WAKE_TIMER_HI_ARMED 1).s pgPM PM_WAKE_EN_EN 0x200, by decide +kernel⟩⟩

theorem test_meets_RailRequests :
    (∃ (r : Nat), r < 4) ∧
    (∃ (r : Nat), r < 4) ∧
    (∃ (s : State) (r : Nat), r < 4 ∧ s.blk.on pgPM (PM_RAIL_STATUS_WAIT_COMMIT r) = true ∧ s.blk.allSlotsIdle = true) :=
  ⟨⟨3, by decide +kernel⟩,
   ⟨3, by decide +kernel⟩,
   ⟨on fun b => b.s pgPM (PM_RAIL_STATUS_WAIT_COMMIT 3) 1, 3, by decide +kernel⟩⟩

theorem test_meets_RailAnswers :
    (∃ (s : State) (r sw : Nat), r < 4 ∧ s.blk.railState r = railCHANGING ∧ s.blk.on pgPM (PM_RAIL_STATUS_PG r) = true ∧
      statusFaults (sw % 2 ^ 16) = false) ∧
    (∃ (s : State) (r since : Nat), r < 4 ∧ s.blk.railState r = railCHANGING ∧ (s.blk.rail r).since = some since ∧
      s.blk.wakesRail r = false) ∧
    (∃ (r : Nat), r < 4) :=
  ⟨⟨on fun b => (b.s pgPM (PM_RAIL_STATUS_STATE 3) 1).s pgPM (PM_RAIL_STATUS_PG 3) 1, 3, 0, by decide +kernel⟩,
   ⟨on fun b => (b.s pgPM (PM_RAIL_STATUS_STATE 3) 1).modRail 3 (fun x => { x with since := some 5 }), 3, 5,
     by decide +kernel⟩,
   ⟨3, by decide +kernel⟩⟩

theorem test_meets_PowerOnReset :
    (∃ (s : State), s.blk.pins.porst = true) ∧
    (∃ (s : State), s.blk.pins.porst = false ∧ s.blk.pins.frst = true ∧ s.blk.allPg = false) ∧
    (∃ (s : State) (r q : Nat), r < 4 ∧ q < 4 ∧ q ≠ r ∧ s.blk.on pgPM (PM_RAIL_STATUS_PG q) = false) ∧
    (∃ (s : State), s.blk.waitsPg = true ∧ s.blk.allPg = false) :=
  ⟨⟨on serves, by decide +kernel⟩,
   ⟨on id, by decide +kernel⟩,
   ⟨on id, 3, 0, by decide +kernel⟩,
   ⟨on fun b => { b with pins := { porst := true } }.s pgSTW STW_STATUS_STEP 1, by decide +kernel⟩⟩

theorem test_meets_FabricResets :
    (∃ (s : State), s.blk.pins.porst = true ∧ s.blk.pins.frst = true) ∧
    (∃ (s : State), s.blk.pins.frst = false ∧ (s.blk.pins.porst = false ∨ s.blk.halted = true ∨ (s.blk.evl.booted = true ∧
      s.blk.domState domSD ≠ 0))) ∧
    (∃ (s : State) (w : Word), (s.blk.dom domAO).up = true ∧ bitsOf w.toNat 16 16 = 0x7B3A ∧ s.blk.pins.porst = true) ∧
    (∃ (s : State) (w : Word) (mg : Nat), (s.blk.dom domAO).up = true ∧ (bitsOf w.toNat 16 16 ≠ 0x7B3A ∨ mg ≠ 0)) ∧
    (∃ (s : State), s.blk.on pgTOP TOP_WDOG_EN = true ∧ s.blk.pinsHigh = true) :=
  ⟨⟨on serves, by decide +kernel⟩,
   ⟨on fun b => { b with pins := { frst := false } }, by decide +kernel⟩,
   ⟨on fun b => ({ up 25 b with pins := { porst := true }, evl := { booted := true } }).s pgPM (PM_DOMAIN_STATE 24) 2,
     0x7B3A0000, by decide +kernel⟩,
   ⟨on (up 25), 0x7B3A0000, 1, by decide +kernel⟩,
   ⟨on fun b => (({ up 25 b with pins := { porst := true }, evl := { booted := true } }).s pgPM (PM_DOMAIN_STATE 24) 2).s
     pgTOP TOP_WDOG_EN 1, by decide +kernel⟩⟩

theorem test_meets_LifeCycle :
    (∃ (s : State) (pins : BitVec 8), s.blk.pins.porst = true ∧ pins.toNat ≠ s.blk.lc.recorded ∧ s.blk.lc.target ≠ some
      pins.toNat ∧ s.blk.lcInvalid = false) ∧
    (∃ (s : State), s.blk.pins.porst = true ∧ s.blk.lcInvalid = true ∧ s.blk.lc.recorded < 256) ∧
    (∃ (s : State) (tg : Nat), s.blk.lc.target = some tg ∧ tg < 256 ∧ s.blk.pins.porst = true ∧ s.blk.lcInvalid = false ∧
      s.blk.evl.booted = true ∧ s.blk.domState domSD ≠ 0 ∧ s.blk.domPhase domSD < 9) :=
  ⟨⟨on serves, 0xFF, by decide +kernel⟩,
   ⟨on fun b => ({ b with pins := { porst := true }, lc := { recorded := 255 } }).s pgTOP TOP_LC_STATE_INVALID 1,
     by decide +kernel⟩,
   ⟨on fun b => ({ b with pins := { porst := true }, evl := { booted := true }, lc := { target := some 255 } }).s pgPM
     (PM_DOMAIN_STATE 24) 2, 255, by decide +kernel⟩⟩

theorem test_meets_RegisterWrite :
    (∃ (s : State) (addr p : Nat), area addr = .page p 0x02C ∧ isPage p = true ∧ isCounterPage p = false ∧ s.blk.pageOn p =
      true ∧ s.blk.on p PG_LOCK_LOCK = false) ∧
    (∃ (s : State) (addr p src : Nat) (w : Word), area addr = .page p 0x02C ∧ isPage p = true ∧ isCounterPage p = false ∧
      s.blk.pageOn p = true ∧ s.blk.on p PG_LOCK_LOCK = true ∧ s.blk.group src ≠ 14 ∧ src ≠ 204 ∧ w ≠ s.blk.rd p 0x02C) ∧
    (∃ (s : State) (addr p off : Nat), area addr = .page p off ∧ (off = 0x000 ∨ off = 0x004 ∨ off = 0x01C ∨ off = 0x028) ∧
      isPage p = true ∧ s.blk.on p PG_LOCK_LOCK = false) :=
  ⟨⟨on (up 15), pageAddr 111 0x02C, 111, by decide +kernel⟩,
   ⟨on fun b => (up 15 b).s 111 PG_LOCK_LOCK 1, pageAddr 111 0x02C, 111, 200, 7, by decide +kernel⟩,
   ⟨on (up 15), pageAddr 111 0x028, 111, 0x028, by decide +kernel⟩⟩

theorem test_meets_TimeReference :
    (∃ (s : State), s.blk.on pgTU TU_STATUS_REF_LOCK = true) ∧
    (∃ (s : State) (t0 : Nat), s.blk.tu.lastValid = some t0) :=
  ⟨⟨on fun b => b.s pgTU TU_STATUS_REF_LOCK 1, by decide +kernel⟩,
   ⟨on fun b => { b with tu := { lastValid := some 5, missRun := 1 } }.s pgTU TU_STATUS_PPS_OK 1, 5, by decide +kernel⟩⟩

theorem test_meets_LatticeAndOutputs :
    (∃ (s : State) (sec : Nat), s.blk.ppsOutOk = true ∧ s.blk.tu.ppsOut = false ∧ sec = ceilDiv (s.blk.now + s.blk.g pgTU
      TU_PPS_OUT_ADVANCE) secUnits ∧ (∀ p, s.blk.tu.pulsed = some p → p < sec)) ∧
    (∃ (s : State), s.blk.tu.ppsOut = true) ∧
    (∃ (s : State), s.blk.on pgTU TU_LATTICE_FORCE_B = false) ∧
    (∃ (s : State) (n i k at' : Nat), n < 112 ∧ i < 216 ∧ k < 4 ∧ earliest (s.blk.strobes n) = some (at', .release i k)) ∧
    (∃ (s : State) (n i at' : Nat), n < 112 ∧ i < 216 ∧ earliest (s.blk.strobes n) = some (at', .swap i)) :=
  ⟨⟨on fun b => { b with now := 5 }.s pgTU TU_PPS_OUT_EN 1 |>.s pgTU TU_PPS_OUT_ONLY_TRACEABLE 0 |>.s pgTU TU_STATUS_STATE
     tsHOLDOVER, 1, by decide +kernel, by decide +kernel, by decide +kernel, fun p h => by cases (show (none : Option Nat) =
     some p from h)⟩,
   ⟨on fun b => { b with tu := { ppsOut := true } }, by decide +kernel⟩,
   ⟨on id, by decide +kernel⟩,
   ⟨rc 0 { isOpen := true, armed := true, tNs := some 9 }, 0, 0, 3, 2304, by decide +kernel⟩,
   ⟨ni 0 { swapAt := some 2304 }, 0, 0, 2304, by decide +kernel⟩⟩

theorem test_meets_TodWrites :
    (∃ (s : State) (t0 : Nat), s.blk.tu.armedAt = some t0) ∧
    (∃ (s : State), s.blk.timeStatus = tsUNSET ∧ s.blk.tu.step = none) ∧
    (∃ (s : State), s.blk.timeStatus ≠ tsUNSET) :=
  ⟨⟨on fun b => { b with tu := { armedAt := some 5 } }, 5, by decide +kernel⟩,
   ⟨on id, by decide +kernel⟩,
   ⟨on fun b => b.s pgTU TU_STATUS_STATE tsHOLDOVER, by decide +kernel⟩⟩

theorem test_meets_TimeSteps :
    (∃ (s : State) (v : Word), bitsOf v.toNat 16 16 = 0xC1A5 ∧ bitsOf v.toNat 0 8 = s.blk.g pgTU TU_STATUS_STEP_SEQ ∧
      s.blk.on pgTU TU_STATUS_STEP_PEND = true ∧ s.blk.tu.step = none) ∧
    (∃ (s : State) (v : Word), (bitsOf v.toNat 16 16 ≠ 0xC1A5 ∨ bitsOf v.toNat 0 8 ≠ s.blk.g pgTU TU_STATUS_STEP_SEQ ∨
      s.blk.on pgTU TU_STATUS_STEP_PEND = false ∨ s.blk.tu.step ≠ none)) ∧
    (∃ (s : State) (x : TimeStep), s.blk.tu.step = some x) :=
  ⟨⟨on fun b => b.s pgTU TU_STATUS_STEP_PEND 1, 0xC1A50000, by decide +kernel⟩,
   ⟨on id, 0xC1A50001, by decide +kernel⟩,
   ⟨on fun b => { b with tu := { step := some { at256 := 512, delta := -256, cause := 0 } } },
     { at256 := 512, delta := -256, cause := 0 }, by decide +kernel⟩⟩

theorem test_meets_TimeCells :
    (∃ (s : State) (n : Nat), n < 112 ∧ s.blk.cellSrc n ≠ srcNONE ∧ s.blk.domState (domOfNode n) = 0) ∧
    (∃ (s : State) (n : Nat), n < 112 ∧ s.blk.domState (domOfNode n) = 0 ∧ s.blk.cellSrc n = 0 ∧ s.blk.on pgTU
      TU_LATTICE_FORCE_B = false) ∧
    (∃ (s : State) (n src : Nat), n < 112 ∧ src < 3 ∧ s.blk.domState (domOfNode n) = 0 ∧ (s.blk.cell n).measured src = false) :=
  ⟨⟨on fun b => b.s pgTU (TU_CELL_SRC 111) 0, 111, by decide +kernel⟩,
   ⟨on fun b => b.s pgTU (TU_CELL_SRC 111) 0, 111, by decide +kernel⟩,
   ⟨on id, 111, 2, by decide +kernel⟩⟩

theorem test_meets_ShadowPages :
    (∃ (s : State) (n : Nat), n < 112 ∧ s.blk.pageUp n = true ∧ (∀ p, p < 4 → s.blk.badProfile n p = false) ∧ (s.blk.node
      n).arbAt = none) ∧
    (∃ (s : State) (p : Nat), isPage p = true ∧ 112 ≤ p ∧ p ≠ pgGT ∧ s.blk.pageUp p = true) ∧
    (∃ (s : State) (n : Nat), n < 112 ∧ s.blk.pageUp n = true ∧ (s.blk.node n).arbAt = none) ∧
    (∃ (s : State) (n : Nat), n < 112 ∧ s.blk.pageUp n = true ∧ (s.blk.node n).arbAt ≠ none) :=
  ⟨⟨on (up 15), 111, by decide +kernel⟩,
   ⟨on serves, pgSTW, by decide +kernel⟩,
   ⟨on (up 15), 111, by decide +kernel⟩,
   ⟨on fun b => (up 15 b).modNode 111 (fun n => { n with arbAt := some 9 }), 111, by decide +kernel⟩⟩

theorem test_meets_CommitPackets :
    (∃ (s : State) (i : Nat) (p : Packet) (rest : List Packet), i < 216 ∧ p.slot < 4 ∧ takeFirst (fun q => q.opc == oPREPARE)
      (s.blk.ni i).rx = some (p, rest) ∧ (s.blk.crec i p.slot).isOpen = false) ∧
    (∃ (s : State) (i : Nat) (p : Packet) (d : BitVec 128) (rest : List Packet), i < 192 ∧ p.slot < 4 ∧ takeFirst (fun q =>
      q.opc == oSTAGE) (s.blk.ni i).rx = some (p, rest) ∧ (s.blk.crec i p.slot).isOpen = true ∧ (s.blk.crec i p.slot).cseq =
      p.cseq ∧ (s.blk.crec i p.slot).prep = false ∧ (s.blk.crec i p.slot).vote = none ∧ (s.blk.crec i p.slot).noStage = false
      ∧ (s.blk.crec i p.slot).staged = true ∧ (s.blk.crec i p.slot).full = false ∧ p.len = 15 ∧ p.flits = [(d, false)] ∧
      p.first < 1023 ∧ (s.blk.crec i p.slot).entry p.first = none ∧ (s.blk.crec i p.slot).entry (p.first + 1) = none ∧
      s.blk.on pgMM MM_FLIPMASK_ARM = false) ∧
    (∃ (s : State) (i : Nat) (p : Packet) (rest : List Packet), i < 216 ∧ p.slot < 4 ∧ takeFirst (fun q => q.opc ==
      oSTAGE_END) (s.blk.ni i).rx = some (p, rest) ∧ (s.blk.crec i p.slot).isOpen = true ∧ (s.blk.crec i p.slot).cseq =
      p.cseq ∧ (s.blk.crec i p.slot).endAt = none ∧ (s.blk.crec i p.slot).vote = none) ∧
    (∃ (s : State) (i : Nat) (p : Packet) (rest : List Packet), i < 216 ∧ p.slot < 4 ∧ takeFirst (fun q => q.opc == oARM)
      (s.blk.ni i).rx = some (p, rest)) :=
  ⟨⟨ni 215 { rx := [pk oPREPARE (commitAddr 0xFFFF 0 3) 0 [(7, false)]] }, 215, pk oPREPARE (commitAddr 0xFFFF 0 3) 0 [(7,
     false)], [], by decide +kernel⟩,
   ⟨on fun b => b.setNi 191 { rx := [pk oSTAGE (commitAddr 9 1022 3) 15 [(7, false)]], recs := [(3,
     { isOpen := true, cseq := 9, staged := true, bank := some 1 })] }, 191, pk oSTAGE (commitAddr 9 1022 3) 15 [(7, false)],
     7, [], by decide +kernel⟩,
   ⟨ni 215 { rx := [pk oSTAGE_END (commitAddr 9 0 3) 0 [(7, false)]], recs := [(3, { isOpen := true, cseq := 9 })] }, 215, pk
     oSTAGE_END (commitAddr 9 0 3) 0 [(7, false)], [], by decide +kernel⟩,
   ⟨ni 215 { rx := [pk oARM (commitAddr 9 0 3)] }, 215, pk oARM (commitAddr 9 0 3), [], by decide +kernel⟩⟩

theorem test_meets_CommitRecords :
    (∃ (s : State) (i k : Nat) (e : Nat × Nat × Nat), i < 216 ∧ k < 4 ∧ (s.blk.crec i k).isOpen = true ∧ (s.blk.crec i
      k).prep = true ∧ (s.blk.crec i k).vote = none ∧ (s.blk.crec i k).endAt = some e) ∧
    (∃ (s : State) (i k : Nat), i < 216 ∧ k < 4 ∧ (s.blk.crec i k).isOpen = true ∧ (s.blk.crec i k).prep = false) ∧
    (∃ (s : State) (i k : Nat), i < 216 ∧ k < 4 ∧ (s.blk.crec i k).isOpen = true ∧ (s.blk.crec i k).prep = true ∧ (s.blk.crec
      i k).tNs = none) ∧
    (∃ (s : State) (i k : Nat), i < 192 ∧ k < 4 ∧ (s.blk.crec i k).load = 1 ∧ (s.blk.ni i).shadow = none ∧ s.blk.stuck i =
      false ∧ s.blk.lpHeld i = false) ∧
    (∃ (s : State) (i k : Nat), i < 192 ∧ k < 4 ∧ (s.blk.crec i k).load = 2) ∧
    (∃ (s : State) (i k : Nat), i < 192 ∧ k < 4 ∧ (s.blk.crec i k).load = 2) :=
  ⟨⟨rc 215 { isOpen := true, prep := true, endAt := some (0, 0, 7) }, 215, 3, (0, 0, 7), by decide +kernel⟩,
   ⟨rc 215 { isOpen := true }, 215, 3, by decide +kernel⟩,
   ⟨rc 215 { isOpen := true, prep := true }, 215, 3, by decide +kernel⟩,
   ⟨on fun b => { b.modRec 191 3 (fun _ => { load := 1 }) with pins := { lpPwr := [191] } } |>.s (pgNi 191) NI_LP_STAT_HELD
     0, 191, 3, by decide +kernel⟩,
   ⟨rc 191 { load := 2, isOpen := true, armRx := true, vote := some voREADY, tNs := some 9 }, 191, 3, by decide +kernel⟩,
   ⟨rc 191 { load := 2 }, 191, 3, by decide +kernel⟩⟩

theorem test_meets_CommitAborts :
    (∃ (s : State) (i : Nat) (p : Packet) (rest : List Packet), i < 216 ∧ p.slot < 4 ∧ takeFirst (fun q => q.opc ==
      oABORT_MSG) (s.blk.ni i).rx = some (p, rest) ∧ (s.blk.crec i p.slot).cseq = p.cseq ∧ (s.blk.crec i p.slot).isOpen =
      true ∧ (s.blk.crec i p.slot).armed = false ∧ (s.blk.crec i p.slot).applied = false ∧ (s.blk.crec i p.slot).keep =
      false) ∧
    (∃ (s : State) (i k : Nat) (a b : Bool), i < 216 ∧ k < 4 ∧ (s.blk.slot k).lineUp = true ∧ (a || b) = true ∧ (s.blk.crec i
      k).isOpen = true ∧ (s.blk.crec i k).armed = false ∧ (s.blk.crec i k).applied = false ∧ (s.blk.crec i k).keep = false) ∧
    (∃ (s : State) (i k tr : Nat), i < 216 ∧ k < 4 ∧ tr < 2 ∧ (s.blk.ni i).badLines.contains (4 * tr + k) = false) ∧
    (∃ (i k tr : Nat), i < 216 ∧ k < 4 ∧ tr < 2) ∧
    (∃ (s : State) (i k tn : Nat), i < 216 ∧ k < 4 ∧ (s.blk.crec i k).isOpen = true ∧ (s.blk.crec i k).armed = true ∧
      (s.blk.crec i k).tNs = some tn ∧ (s.blk.crec i k).applied = false ∧ (s.blk.crec i k).keep = false ∧ s.blk.niNow i + 512
      ≤ tn * 256 ∧ (s.blk.ni i).badLines.contains k = true ∧ (s.blk.ni i).badLines.contains (4 + k) = true) :=
  ⟨⟨ni 215 { rx := [pk oABORT_MSG (commitAddr 9 0 3)], recs := [(3, { isOpen := true, cseq := 9 })] }, 215, pk oABORT_MSG
     (commitAddr 9 0 3), [], by decide +kernel⟩,
   ⟨on fun b => (b.modRec 215 3 (fun _ => { isOpen := true })).modSlot 3 (fun _ => { lineUp := true }), 215, 3, false, true,
     by decide +kernel⟩,
   ⟨on id, 215, 3, 1, by decide +kernel⟩,
   ⟨215, 3, 1, by decide +kernel⟩,
   ⟨ni 215 { badLines := [3, 7], recs := [(3, { isOpen := true, armed := true, tNs := some 2 })] }, 215, 3, 2,
     by decide +kernel⟩⟩

theorem test_meets_CommitRelease :
    (∃ (s : State) (i k tn : Nat), i < 192 ∧ k < 4 ∧ (s.blk.crec i k).isOpen = true ∧ (s.blk.crec i k).tNs = some tn ∧
      (s.blk.crec i k).applied = false) ∧
    (∃ (s : State) (i tn : Nat), i < 216 ∧ (s.blk.ni i).swapAt = some tn) ∧
    (∃ (s : State) (i k d tn : Nat), i < 192 ∧ k < 4 ∧ (s.blk.ni i).lpAck = false ∧ (s.blk.crec i k).applied = true ∧
      (s.blk.ni i).lpApply = true ∧ (s.blk.crec i k).tNs = some tn ∧ (s.blk.advance d).niNow i ≤ tn * 256 + 16384) ∧
    (∃ (s : State) (i k tn : Nat), i < 192 ∧ k < 4 ∧ (s.blk.crec i k).applied = true ∧ (s.blk.crec i k).tNs = some tn) ∧
    (∃ (i : Nat), i < 192) :=
  ⟨⟨rc 191 { isOpen := true, armed := true, tNs := some 9 }, 191, 3, 9, by decide +kernel⟩,
   ⟨ni 215 { swapAt := some 9 }, 215, 9, by decide +kernel⟩,
   ⟨ni 191 { lpApply := true, recs := [(3, { applied := true, tNs := some 0 })] }, 191, 3, 16384, 0, by decide +kernel⟩,
   ⟨rc 191 { applied := true, tNs := some 9 }, 191, 3, 9, by decide +kernel⟩,
   ⟨191, by decide +kernel⟩⟩

theorem test_meets_CsqCommands :
    (∃ (s : State) (k : Nat) (v : Word), k < 4 ∧ s.blk.niUp 206 = true ∧ (s.blk.writeCtrl k v).earlyChecks k false ≠ 0) ∧
    (∃ (s : State) (k : Nat) (v : Word), k < 4 ∧ s.blk.niUp 206 = true ∧ (s.blk.writeCtrl k v).earlyChecks k false = 0 ∧
      s.blk.slotState k = slIDLE ∧ (Sys.askFrond { blk := s.blk.writeCtrl k v, mem := s.mem } k false).2.blk.lateChecks k
      (Sys.askFrond { blk := s.blk.writeCtrl k v, mem := s.mem } k false).1 = 0) ∧
    (∃ (s : State) (k : Nat) (v : Word), k < 4 ∧ s.blk.niUp 206 = true ∧ (s.blk.writeCtrl k v).earlyChecks k true ≠ 0) ∧
    (∃ (s : State) (k : Nat) (v : Word), k < 4 ∧ s.blk.niUp 206 = true ∧ (s.blk.writeCtrl k v).earlyChecks k true = 0 ∧
      s.blk.slotState k = slIDLE ∧ (Sys.askFrond { blk := s.blk.writeCtrl k v, mem := s.mem } k true).2.blk.lateChecks k
      (Sys.askFrond { blk := s.blk.writeCtrl k v, mem := s.mem } k true).1 = 0) ∧
    (∃ (s : State) (k : Nat) (v : Word), k < 4 ∧ s.blk.niUp 206 = true ∧ (s.blk.writeCtrl k v).earlyChecks k true = 0 ∧
      s.blk.slotState k = slOPEN ∧ (Sys.askFrond { blk := s.blk.writeCtrl k v, mem := s.mem } k true).2.blk.lateChecks k
      (Sys.askFrond { blk := s.blk.writeCtrl k v, mem := s.mem } k true).1 = 0) ∧
    (∃ (s : State) (k : Nat), k < 4 ∧ s.blk.niUp 206 = true ∧ s.blk.undecided k = true ∧ (s.blk.slot k).allReported = false) ∧
    (∃ (s : State) (k : Nat), k < 4 ∧ s.blk.niUp 206 = true ∧ s.blk.undecided k = true ∧ (s.blk.slot k).allReported = true) ∧
    (∃ (s : State) (k : Nat), k < 4 ∧ s.blk.niUp 206 = true ∧ s.blk.undecided k = false) :=
  ⟨⟨on (up domSD), 3, 0, by decide +kernel⟩,
   ⟨ready slIDLE, 3, 4, by decide +kernel⟩,
   ⟨on (up domSD), 3, 0, by decide +kernel⟩,
   ⟨ready slIDLE, 3, 4, by decide +kernel⟩,
   ⟨ready slOPEN, 3, 4, by decide +kernel⟩,
   ⟨on fun b => (up domSD (b.setSlotState 3 slOPEN)).modSlot 3 (fun x => { x with prepared := [0] }), 3, by decide +kernel⟩,
   ⟨on fun b => up domSD (b.setSlotState 3 slOPEN), 3, by decide +kernel⟩,
   ⟨on (up domSD), 3, by decide +kernel⟩⟩

theorem test_meets_CsqArrivals :
    (∃ (s : State) (p : Packet) (rest : List Packet), p.slot < 4 ∧ takeFirst (fun q => q.opc == oVOTE) (s.blk.ni 206).rx =
      some (p, rest) ∧ s.blk.g pgCSQ (CSQ_SLOT_CSEQ p.slot) = p.cseq ∧ s.blk.slotState p.slot = slOPEN ∧ (s.blk.slot
      p.slot).prepared.contains p.src = true ∧ ((s.blk.slot p.slot).vote p.src).code = voPENDING) ∧
    (∃ (s : State) (p : Packet) (rest : List Packet), p.slot < 4 ∧ takeFirst (fun q => q.opc == oARM_ACK) (s.blk.ni 206).rx =
      some (p, rest) ∧ s.blk.g pgCSQ (CSQ_SLOT_CSEQ p.slot) = p.cseq ∧ s.blk.slotState p.slot = slARMING ∧ (s.blk.slotTargets
      p.slot).contains p.src = true ∧ (s.blk.slot p.slot).acks.contains p.src = false) ∧
    (∃ (s : State) (p : Packet) (rest : List Packet), p.slot < 4 ∧ takeFirst (fun q => q.opc == oRELEASED) (s.blk.ni 206).rx
      = some (p, rest) ∧ s.blk.g pgCSQ (CSQ_SLOT_CSEQ p.slot) = p.cseq ∧ (s.blk.slotState p.slot = slDECIDED ∨
      s.blk.slotState p.slot = slABORTING) ∧ (s.blk.slot p.slot).prepared.contains p.src = true ∧ (s.blk.slot p.slot).report
      p.src = none) :=
  ⟨⟨on fun _ => (sl slOPEN { prepared := [200] }).setNi 206 { rx := [pk oVOTE 3 0 [(7, false)]] }, pk oVOTE 3 0 [(7, false)],
     [], by decide +kernel⟩,
   ⟨on fun _ => ((sl slARMING { prepared := [200], tNs := 500 }).setBitAt pgCSQ (CSQ_TARGETS 3) 200 true).setNi 206
     { rx := [pk oARM_ACK 3] }, pk oARM_ACK 3, [], by decide +kernel⟩,
   ⟨on fun _ => (sl slDECIDED { prepared := [200, 1] }).setNi 206 { rx := [pk oRELEASED 3 0 [(7, false)]] }, pk oRELEASED 3 0
     [(7, false)], [], by decide +kernel⟩⟩

theorem test_meets_CsqDeadlines :
    (∃ (s : State) (k : Nat), k < 4 ∧ s.blk.slotState k = slVOTING ∧ (s.blk.slot k).allReported = false ∧ takeFirst (fun q =>
      q.opc == oVOTE) (s.blk.ni 206).rx = none) ∧
    (∃ (s : State) (k : Nat), k < 4 ∧ s.blk.slotState k = slARMING ∧ (s.blk.slot k).allReported = false ∧ takeFirst (fun q =>
      q.opc == oARM_ACK) (s.blk.ni 206).rx = none) ∧
    (∃ (s : State) (k : Nat), k < 4 ∧ s.blk.slotState k = slOPEN ∧ (s.blk.slot k).allReported = false) ∧
    (∃ (s : State) (k : Nat), k < 4 ∧ s.blk.slotState k = slDECIDED ∧ takeFirst (fun q => q.opc == oRELEASED) (s.blk.ni
      206).rx = none) ∧
    (∃ (s : State) (k code cause since : Nat), k < 4 ∧ s.blk.slotState k = slABORTING ∧ (s.blk.slot k).abort = some (code,
      cause, since) ∧ takeFirst (fun q => q.opc == oRELEASED) (s.blk.ni 206).rx = none) :=
  ⟨⟨on fun _ => sl slVOTING { prepared := [0], tNs := 900 }, 3, by decide +kernel⟩,
   ⟨on fun _ => sl slARMING { prepared := [0], tNs := 900, armSent := true }, 3, by decide +kernel⟩,
   ⟨on fun _ => sl slOPEN { prepared := [0] }, 3, by decide +kernel⟩,
   ⟨on fun _ => sl slDECIDED { prepared := [0] }, 3, by decide +kernel⟩,
   ⟨on fun _ => sl slABORTING { prepared := [0], abort := some (2, 0, 5) }, 3, 2, 0, 5, by decide +kernel⟩⟩

theorem test_meets_AbortNet :
    (∃ (s : State), s.blk.niUp 206 = true) ∧
    (∃ (s : State) (tr k : Nat), tr < 2 ∧ k < 4 ∧ s.blk.niUp 206 = true ∧ (s.blk.slot k).lineUp = false) ∧
    (∃ (s : State) (tr k d : Nat) (q : Nat × Nat), tr < 2 ∧ k < 4 ∧ d < 255 ∧ s.blk.csq.tests.find? (fun x => x.1 == 4 * tr +
      k) = some q ∧ s.blk.elapsed ≤ q.2 + 8192) ∧
    (∃ (s : State) (tr k : Nat) (q : Nat × Nat), tr < 2 ∧ k < 4 ∧ s.blk.csq.tests.find? (fun x => x.1 == 4 * tr + k) = some
      q) ∧
    (∃ (s : State), s.blk.niUp 206 = true) ∧
    (∃ (s : State), s.blk.csq.bad = true ∧ s.blk.safe = false ∧ s.blk.allSlotsIdle = true) :=
  ⟨⟨on (up domSD), by decide +kernel⟩,
   ⟨on (up domSD), 1, 3, by decide +kernel⟩,
   ⟨on fun b => { b with csq := { tests := [(7, 0)], passB := 2 }, elapsed := 8192 }, 1, 3, 254, (7, 0), by decide +kernel⟩,
   ⟨on fun b => { b with csq := { tests := [(7, 0)] } }, 1, 3, (7, 0), by decide +kernel⟩,
   ⟨on (up domSD), by decide +kernel⟩,
   ⟨on fun b => { b with csq := { bad := true } }, by decide +kernel⟩⟩

theorem test_meets_Fronds :
    (∃ (k : Nat), k < 8) ∧
    (∃ (s : State) (k c : Nat) (x : Seal), k < 8 ∧ (s.blk.fsb k).sealing = some x ∧ (Sys.readMarked
      { blk := s.blk, mem := s.mem } (granuleAddr k x.base) (granuleAddr k x.base + 2 * x.size)).2.2.sealCheck k x = some c) ∧
    (∃ (s : State) (k : Nat) (x : Seal), k < 8 ∧ (s.blk.fsb k).sealing = some x ∧ (Sys.readMarked
      { blk := s.blk, mem := s.mem } (granuleAddr k x.base) (granuleAddr k x.base + 2 * x.size)).2.2.sealCheck k x = none) ∧
    (∃ (s : State) (k : Nat) (v : Word), k < 8 ∧ s.blk.on (pgFs k) FS_STATUS_SEAL_BUSY = false ∧ s.blk.on pgMM
      MM_FLIPMASK_ARM = false ∧ (s.mem.flagsAt (descAddr k (bitsOf v.toNat 16 10) / 16)).flips = []) ∧
    (∃ (s : State) (k id : Nat), k < 8 ∧ (s.blk.fsb k).retiring = some id ∧ (Sys.desc { blk := s.blk, mem := s.mem } k
      id).pinned = false ∧ s.blk.on pgMM MM_FLIPMASK_ARM = false ∧ (∀ g, g < (Sys.desc { blk := s.blk, mem := s.mem } k
      id).size → (s.mem.flagsAt (granuleAddr k ((Sys.desc { blk := s.blk, mem := s.mem } k id).base + g) / 16)).flips = [])) ∧
    (∃ (s : State) (k a : Nat) (x : StreamRead), k < 8 ∧ a < 2 ∧ s.blk.streamOut k a = none ∧ AMap.get none (s.blk.fsb
      k).reads a = some x ∧ x.left = 0) ∧
    (∃ (s : State) (k a : Nat) (x : Stream), k < 8 ∧ a < 2 ∧ s.blk.streamOut k a = none ∧ AMap.get none (s.blk.fsb k).reads a
      = none ∧ (s.blk.fsb k).turn a = some x ∧ x.next = x.stages) :=
  ⟨⟨7, by decide +kernel⟩,
   ⟨on fun b => b.modFs 7 (fun f =>
     { f with sealing := some { frond := 1, base := 0, size := 0, n := 1, mask := 1, gen := 1 } }), 7, 2,
     { frond := 1, base := 0, size := 0, n := 1, mask := 1, gen := 1 }, by decide +kernel⟩,
   ⟨on fun b => b.modFs 7 (fun f =>
     { f with sealing := some { frond := 1, base := 0, size := 1, n := 1, mask := 128, gen := 1 } }), 7,
     { frond := 1, base := 0, size := 1, n := 1, mask := 128, gen := 1 }, by decide +kernel⟩,
   ⟨on id, 7, 0x03FF0002, by decide +kernel⟩,
   ⟨on fun b => b.modFs 7 (fun f => { f with retiring := some 1023 }), 7, 1023, by decide +kernel⟩,
   ⟨on fun b => b.modFs 7 (fun f => { f with queues := [(1,
     [{ slot := 3, cseq := 1, frond := 0, ni := 0, count := 1, addr := 0, crc := 0 }])], reads := [(1, some
     { s := { slot := 3, cseq := 1, frond := 0, ni := 0, count := 1, addr := 0, crc := 0 }, left := 0 })] }), 7, 1,
     { s := { slot := 3, cseq := 1, frond := 0, ni := 0, count := 1, addr := 0, crc := 0 }, left := 0 }, by decide +kernel⟩,
   ⟨on fun b => b.modFs 7 (fun f => { f with queues := [(1,
     [{ slot := 3, cseq := 1, frond := 0, ni := 0, count := 1, addr := 0, crc := 0, next := 1 }])] }), 7, 1,
     { slot := 3, cseq := 1, frond := 0, ni := 0, count := 1, addr := 0, crc := 0, next := 1 }, by decide +kernel⟩⟩

theorem test_meets_Records :
    (∃ (s : State) (d : RecData) (rest : List RecData), s.blk.evl.booted = true ∧ s.blk.dueFirst = false ∧ (s.blk.lc.handed
      && !s.blk.lcInvalid) = false ∧ s.blk.evl.gap = none ∧ s.blk.evl.queue = d :: rest ∧ s.blk.canForm d = true) ∧
    (∃ (s : State) (d : RecData) (rest : List RecData), s.blk.evl.booted = true ∧ s.blk.dueFirst = false ∧ (s.blk.lc.handed
      && !s.blk.lcInvalid) = false ∧ s.blk.evl.gap = none ∧ s.blk.evl.queue = d :: rest ∧ s.blk.canForm d = false) ∧
    (∃ (s : State) (g : Gap), s.blk.evl.booted = true ∧ s.blk.dueFirst = false ∧ (s.blk.lc.handed && !s.blk.lcInvalid) =
      false ∧ s.blk.evl.gap = some g ∧ s.blk.gapReady = true) ∧
    (∃ (s : State), s.blk.evl.booted = true ∧ s.blk.dueFirst = false ∧ (s.blk.lc.handed && !s.blk.lcInvalid) = false ∧
      s.blk.evl.gap = none ∧ s.blk.evl.queue = [] ∧ s.blk.evl.disabling = true ∧ s.blk.evl.resv = 0 ∧ s.blk.lcInvalid = false
      ∧ 1 ≤ s.blk.evlFree) ∧
    (∃ (s : State) (reason : Nat), s.blk.evl.due = some reason ∧ s.blk.evl.booted = true ∧ (s.blk.lc.handed &&
      !s.blk.lcInvalid) = false ∧ s.blk.canForm { typ := tyCHECKPOINT, body := s.blk.ckptBody reason [] } = true) :=
  ⟨⟨on fun _ => log { booted := true, queue := [rec0] }, rec0, [], by decide +kernel⟩,
   ⟨on fun b => { b with evl := { booted := true, queue := [rec0] } }.s pgEVL EVL_STATUS_ACTIVE 0, rec0, [],
     by decide +kernel⟩,
   ⟨on fun _ => log { booted := true, gap := some { reason := gapDISABLED } }, { reason := gapDISABLED }, by decide +kernel⟩,
   ⟨on fun _ => log { booted := true, disabling := true }, by decide +kernel⟩,
   ⟨on fun _ => log { booted := true, due := some ckHANDOVER }, ckHANDOVER, by decide +kernel⟩⟩

theorem test_meets_LogControl :
    (∃ (s : State) (t0 : Nat), s.blk.evl.timerAt = some t0) ∧
    (∃ (s : State) (t0 : Nat), s.blk.evl.ckptHeld = true ∧ s.blk.evl.lastCkpt = some t0) ∧
    (∃ (s : State), s.blk.on pgEVL EVL_POLICY_LOCK = false ∧ s.blk.logEnabled = true) ∧
    (∃ (s : State), s.blk.on pgEVL EVL_POLICY_LOCK = false ∧ s.blk.logEnabled = false) ∧
    (∃ (s : State), s.blk.on pgEVL EVL_POLICY_LOCK = true) ∧
    (∃ (v : Word), bit v.toNat 0 = true) ∧
    (∃ (v : Word), bit v.toNat 0 = false) ∧
    (∃ (s : State), s.blk.drainReady = true) :=
  ⟨⟨on fun b => { b with evl := { timerAt := some 9 } }, 9, by decide +kernel⟩,
   ⟨on fun b => { b with evl := { ckptHeld := true, lastCkpt := some 9 } }, 9, by decide +kernel⟩,
   ⟨on fun b => b.s pgEVL EVL_POLICY_ENABLE 1, by decide +kernel⟩,
   ⟨on fun b => b.s pgEVL EVL_POLICY_ENABLE 0, by decide +kernel⟩,
   ⟨on fun b => b.s pgEVL EVL_POLICY_LOCK 1, by decide +kernel⟩,
   ⟨1, by decide +kernel⟩,
   ⟨2, by decide +kernel⟩,
   ⟨on fun b => ((b.s pgEVL EVL_DRAIN_EN 1).s pgEVL EVL_HEAD_P 1).s64 pgEVL EVL_DRAIN_BASE 0xC900000000 |>.s (pgNi 205)
     NI_INFO_LIVE 1 |>.s (pgNi 205) (NI_REACH 200) 0, by decide +kernel⟩⟩

theorem test_meets_TailRelease :
    (∃ (s : State) (v : Word) (d head ptr : Nat), d = (v.toNat + 2 ^ 32 - s.blk.g pgEVL EVL_TAIL_P) % 2 ^ 32 ∧ head =
      (s.blk.g pgEVL EVL_HEAD_P + 2 ^ 32 - s.blk.g pgEVL EVL_TAIL_P) % 2 ^ 32 ∧ ptr = (s.blk.g pgEVL EVL_DRAIN_PTR_P + 2 ^ 32
      - s.blk.g pgEVL EVL_TAIL_P) % 2 ^ 32) :=
  ⟨on fun b => b.wr pgEVL 0x048 5, 5, 5, 5, 0, by decide +kernel⟩

theorem test_meets_GateManager :
    (∃ (s : State) (m : AMap Word), s.blk.gt.next = some m) ∧
    (∃ (s : State) (v : Word), s.blk.windowReach (bitsOf v.toNat 0 7) = true ∧ s.blk.on pgGT GT_WIN_SEL_BUSY = false) ∧
    (∃ (s : State) (v : Word), s.blk.windowReach (bitsOf v.toNat 0 7) = true ∧ s.blk.on pgGT GT_WIN_SEL_BUSY = false) ∧
    (∃ (s : State) (write : Bool) (n set k : Nat), s.blk.gt.op = some (write, n, set, k) ∧ s.blk.windowReach n = true) ∧
    (∃ (s : State) (at' : Nat), at' = nsOfStamp (s.blk.g64 pgGT GT_SWAP_T) * 256 ∧ s.blk.safe = false ∧ s.blk.on pgGT
      GT_STATUS_SWAP_PEND = false ∧ s.blk.allSlotsIdle = true ∧ s.blk.now + 25600000 ≤ at' ∧ at' ≤ s.blk.now + 256000000000) ∧
    (∃ (s : State), (s.blk.safe = true ∨ s.blk.on pgGT GT_STATUS_SWAP_PEND = true ∨ s.blk.allSlotsIdle = false)) ∧
    (∃ (s : State), s.blk.on pgGT GT_STATUS_SWAP_PEND = true) :=
  ⟨⟨on fun b => { b with gt := { next := some [] } }, [], by decide +kernel⟩,
   ⟨on (up 15), 0x7EF, by decide +kernel⟩,
   ⟨on (up 15), 0x7EF, by decide +kernel⟩,
   ⟨on fun b => { up 15 b with gt := { op := some (true, 111, 1, 7) } }, true, 111, 1, 7, by decide +kernel⟩,
   ⟨on fun b => b.s64 pgGT GT_SWAP_T 100000, 25600000, by decide +kernel⟩,
   ⟨on fun b => b.s pgFC FC_STATUS_SAFE 1, by decide +kernel⟩,
   ⟨on fun b => b.s pgGT GT_STATUS_SWAP_PEND 1, by decide +kernel⟩⟩

theorem test_meets_MemoryUnit :
    (∃ (s : State) (r : Nat), r < 12 ∧ s.blk.regionOn r = true ∧ s.blk.g pgMM (MM_SCRUB_RATE_INTERVAL r) ≠ 0) ∧
    (∃ (s : State) (a : Nat), s.blk.mm.backs.contains a = true) ∧
    (∃ (v : Word), bit v.toNat 8 = true) ∧
    (∃ (s : State) (k : Nat) (rest : List Nat), k < 8 ∧ s.blk.mm.wiping = k :: rest) :=
  ⟨⟨on fun b => (up domSD b).s pgMM (MM_SCRUB_RATE_INTERVAL 11) 1, 11, by decide +kernel⟩,
   ⟨on fun b => { b with mm := { backs := [0x40000000] } }, 0x40000000, by decide +kernel⟩,
   ⟨0x107, by decide +kernel⟩,
   ⟨on fun b => { b with mm := { wiping := [7, 0] } }, 7, [0], by decide +kernel⟩⟩

theorem test_meets_FaultArrivals :
    (∃ (s : State) (src c : Nat) (p : Packet) (rest : List Packet), src < 1024 ∧ c < 16 ∧ takeFirst (fun q => q.brings src c)
      (s.blk.ni 208).rx = some (p, rest) ∧ (eventOf (p.bytes 16)).lvl = 0 ∧ s.blk.g pgFC (FC_CLASS_CFG_FLOOR c) = 0) ∧
    (∃ (s : State) (src c : Nat) (e : Event) (rest : List Event), src < 1024 ∧ c < 16 ∧ takeFirst (fun q => q.brings src c)
      (s.blk.ni 208).rx = none ∧ s.blk.byPacket src = false ∧ takeFirst (fun x => x.src == src && x.cls == c) s.blk.events =
      some (e, rest) ∧ e.lvl = 0 ∧ s.blk.g pgFC (FC_CLASS_CFG_FLOOR c) = 0) ∧
    (∃ (s : State) (src c lvl : Nat) (e : Event), src < 1024 ∧ c < 16 ∧ e.lvl < 4 ∧ e.merged = 0 ∧ ((∃ p rest, takeFirst (fun
      q => q.brings src c) (s.blk.ni 208).rx = some (p, rest) ∧ e = eventOf (p.bytes 16)) ∨ (takeFirst (fun q => q.brings src
      c) (s.blk.ni 208).rx = none ∧ s.blk.byPacket src = false ∧ ∃ rest, takeFirst (fun x => x.src == src && x.cls == c)
      s.blk.events = some (e, rest))) ∧ lvl = max e.lvl (s.blk.g pgFC (FC_CLASS_CFG_FLOOR c)) ∧ 1 ≤ lvl ∧ s.blk.fcPend c =
      false) ∧
    (∃ (s : State) (c t0 : Nat), c < 16 ∧ s.blk.fcTimer c = some t0 ∧ s.blk.fcLevel c < s.blk.escalated c (s.blk.fcLevel c)) :=
  ⟨⟨ni 208 { rx := [evPk 0 0] }, 1023, 0, evPk 0 0, [], by decide +kernel⟩,
   ⟨on fun b => { b with events := [{ src := 1023, cls := 0, lvl := 0, detail := 0 }] }, 1023, 0,
     { src := 1023, cls := 0, lvl := 0, detail := 0 }, [], by decide +kernel⟩,
   ⟨on fun b => { b with events := [ev 3] }, 1023, 15, 3, ev 3, by decide +kernel, by decide +kernel, by decide +kernel,
     by decide +kernel, .inr ⟨by decide +kernel, by decide +kernel, [], by decide +kernel⟩, by decide +kernel⟩,
   ⟨on fun b => { b with fc := { timers := [(15, some 9)] } }.s pgFC (FC_LEVEL 15) 1, 15, 9, by decide +kernel⟩⟩

theorem test_meets_FaultControl :
    (∃ (s : State) (v : Word), s.blk.safe = true ∧ s.blk.g pgFC FC_PEND_PEND = 0 ∧ s.blk.on pgFC FC_STATUS_COLLECT_ERR =
      false ∧ bitsOf v.toNat 16 16 = 0xE71D ∧ bitsOf v.toNat 0 8 = s.blk.g pgFC FC_STATUS_SAFE_SEQ) ∧
    (∃ (s : State) (v : Word) (mg : Nat), (mg ≠ 0 ∨ s.blk.safe = false ∨ s.blk.g pgFC FC_PEND_PEND ≠ 0 ∨ s.blk.on pgFC
      FC_STATUS_COLLECT_ERR = true ∨ bitsOf v.toNat 16 16 ≠ 0xE71D ∨ bitsOf v.toNat 0 8 ≠ s.blk.g pgFC FC_STATUS_SAFE_SEQ)) ∧
    (∃ (s : State), s.blk.on pgFC FC_STATUS_HELD = true ∧ s.blk.eventHosts ≠ []) :=
  ⟨⟨on fun b => b.s pgFC FC_STATUS_SAFE 1, 0xE71D0000, by decide +kernel⟩,
   ⟨on fun b => b.s pgFC FC_STATUS_SAFE 1, 0xE71C0000, 0, by decide +kernel⟩,
   ⟨on fun b => ((b.s pgFC FC_STATUS_HELD 1).s (pgNi 208) NI_INFO_LIVE 1).s (pgNi 208) (NI_REACH 203) 0, by decide +kernel⟩⟩

theorem test_meets_Ageing :
    (∃ (s : State) (n q w m sp : Nat) (x : LaneReq), n < 112 ∧ q < 4 ∧ w < 144 ∧ neighbour n q = some m ∧
      s.blk.stw.lanes.find? (fun y => y.n == n && y.q == q && y.w == w && y.sent.isNone) = some x ∧ s.blk.pageUp (pgNode n) =
      true ∧ s.blk.pageUp (pgNode m) = true ∧ (List.range 4).find? (fun j => decide (144 ≤ s.blk.g (pgNode m) (NODE_LANE_MAP
      (opposite q) j))) = some sp) ∧
    (∃ (s : State) (n q m sp t0 : Nat) (x : LaneReq), n < 112 ∧ q < 4 ∧ neighbour n q = some m ∧ sp < 4 ∧
      s.blk.stw.lanes.find? (fun y => y.n == n && y.q == q && y.sent.isSome) = some x ∧ x.sent = some (sp, t0) ∧ x.w < 144 ∧
      s.blk.pageUp (pgNode n) = true) ∧
    (∃ (s : State) (n k : Nat), n < 112 ∧ hasPath n k = true ∧ s.blk.pageUp (pgNode n) = true) :=
  ⟨⟨lane none |> fun s => { s with blk := (up 15 s.blk).wr 97 0x104 0xFFFFFFFF }, 111, 3, 143, 97, 0,
     { n := 111, q := 3, w := 143 }, by decide +kernel⟩,
   ⟨lane (some (3, 9)), 111, 3, 97, 3, 9, { n := 111, q := 3, w := 143, sent := some (3, 9) }, by decide +kernel⟩,
   ⟨on (up 15), 111, 7, by decide +kernel⟩⟩

theorem test_meets_Observation :
    (∃ (s : State) (x : Nat), s.blk.nextSnapshot = some x) ∧
    (∃ (s : State) (d : Dump), s.blk.pr.dump = some d ∧ (d.failed = true ∨ (d.todo = [] ∧ (s.blk.ni 211).txns = [] ∧ AMap.get
      [] (s.blk.ni 211).waitq cMGT = []))) ∧
    (∃ (s : State), s.blk.prOn = true) ∧
    (∃ (s : State), s.blk.prOn = true) ∧
    (∃ (s : State) (p : Nat), s.blk.pr.newPeriod = some p) ∧
    (∃ (s : State) (i : Nat), i < 216 ∧ s.blk.niUp i = true) :=
  ⟨⟨on fun b => { serves b with pr := { shotAt := some 9 } }, 9, by decide +kernel⟩,
   ⟨on fun b => { b with pr := { dump := some { seq := 0, status := 0, pages := 0, instant := 0, skipped := 0, base := 0 } }
     }, { seq := 0, status := 0, pages := 0, instant := 0, skipped := 0, base := 0 }, by decide +kernel⟩,
   ⟨on serves, by decide +kernel⟩,
   ⟨on serves, by decide +kernel⟩,
   ⟨on fun b => { b with pr := { newPeriod := some 5 } }, 5, by decide +kernel⟩,
   ⟨on fun b => (up 24 b).setNi 215 { sampleN := 1, samples := [(0, [1])] }, 215, by decide +kernel⟩⟩

theorem test_meets_MailboxRefusals :
    (∃ (s : State) (v : Word) (mg : Nat) (c : Instr), (s.blk.dom domSD).up = true ∧ s.blk.stw.mbox.isSome = true ∧ ((bitsOf
      v.toNat 0 8 = 1 ∧ c = .resync v mg) ∨ (bitsOf v.toNat 0 8 = 3 ∧ c = .cfgErase v mg) ∨ (bitsOf v.toNat 0 8 = 4 ∧ c =
      .epochRebuild v mg) ∨ (bitsOf v.toNat 0 8 = 5 ∧ c = .isolate v mg) ∨ (bitsOf v.toNat 0 8 = 7 ∧ c = .recordsRead v mg) ∨
      (bitsOf v.toNat 0 8 = 9 ∧ c = .noiseRead v mg))) ∧
    (∃ (s : State) (v : Word) (mg : Nat) (c : Instr) (ok : Bool) (noise : List (BitVec 2048)), (s.blk.dom domSD).up = true ∧
      s.blk.stwServes = true ∧ s.blk.stw.mbox = none ∧ s.blk.safe = true ∧ bit v.toNat 8 = false ∧ ((bitsOf v.toNat 0 8 = 4 ∧
      c = .epochRebuild v mg) ∨ (bitsOf v.toNat 0 8 = 6 ∧ c = .returnObject v mg ok) ∨ (bitsOf v.toNat 0 8 = 8 ∧ c =
      .lcPrepare v mg noise))) ∧
    (∃ (s : State) (v : Word), (s.blk.dom domSD).up = true ∧ s.blk.stwServes = true ∧ s.blk.stw.mbox = none ∧ bit v.toNat 8 =
      false ∧ (bitsOf v.toNat 0 8 = 0 ∨ 9 < bitsOf v.toNat 0 8)) :=
  ⟨⟨on fun b => { up domSD b with stw := { mbox := some 7 } }, 9, 0, .noiseRead 9 0, by decide +kernel⟩,
   ⟨on fun b => (serves b).s pgFC FC_STATUS_SAFE 1, 8, 0, .lcPrepare 8 0 [], true, [], by decide +kernel⟩,
   ⟨on serves, 10, by decide +kernel⟩⟩

theorem test_meets_MailboxFabric :
    (∃ (s : State) (v : Word), (s.blk.dom domSD).up = true ∧ s.blk.stwServes = true ∧ s.blk.stw.mbox = none ∧ s.blk.safe =
      false ∧ bitsOf v.toNat 0 8 = 1 ∧ hostRange (s.blk.hostAddr 0) 4096 = true ∧ s.blk.hostAddr 0 % 4096 = 0) ∧
    (∃ (s : State) (v : Word), (s.blk.dom domSD).up = true ∧ s.blk.stwServes = true ∧ s.blk.stw.mbox = none ∧ s.blk.safe =
      false ∧ bitsOf v.toNat 0 8 = 4) ∧
    (∃ (s : State) (v : Word), (s.blk.dom domSD).up = true ∧ s.blk.stwServes = true ∧ s.blk.stw.mbox = none ∧ s.blk.safe =
      false ∧ bitsOf v.toNat 0 8 = 5 ∧ objectOk (s.blk.mArg 0) (s.blk.mArg 1) = true ∧ s.blk.isolated (s.blk.mArg 0)
      (s.blk.mArg 1) = false) ∧
    (∃ (s : State) (v : Word), (s.blk.dom domSD).up = true ∧ s.blk.stwServes = true ∧ s.blk.stw.mbox = none ∧ s.blk.safe =
      false ∧ bitsOf v.toNat 0 8 = 6 ∧ objectOk (s.blk.mArg 0) (s.blk.mArg 1) = true ∧ s.blk.stw.waits = false) ∧
    (∃ (s : State) (v : Word), (s.blk.dom domSD).up = true ∧ s.blk.stwServes = true ∧ s.blk.stw.mbox = none ∧ s.blk.safe =
      false ∧ bitsOf v.toNat 0 8 = 7 ∧ s.blk.mArg 0 = 0 ∧ hostRange (s.blk.hostAddr 1) 768 = true) :=
  ⟨⟨on fun _ => mbox 0x00000000 0xC9 0, 1, by decide +kernel⟩,
   ⟨on serves, 4, by decide +kernel⟩,
   ⟨on fun _ => mbox 0 201 0, 5, by decide +kernel⟩,
   ⟨on fun _ => mbox 2 215 0, 6, by decide +kernel⟩,
   ⟨on fun _ => mbox 0 0 0xC9, 7, by decide +kernel⟩⟩

theorem test_meets_MailboxSystem :
    (∃ (s : State) (v : Word) (im : List Byte) (len : Nat), (s.blk.dom domSD).up = true ∧ s.blk.stwServes = true ∧
      s.blk.stw.mbox = none ∧ s.blk.stw.waits = false ∧ s.blk.safe = false ∧ bitsOf v.toNat 0 8 = 2 ∧ len = s.blk.mArg 2 ∧
      hostRange (s.blk.hostAddr 0) len = true ∧ 32 ≤ len ∧ len ≤ 262144 ∧ len % 8 = 0 ∧ cfgImageOk (sliceBytes im 0 len) len
      = true) ∧
    (∃ (s : State) (v : Word), (s.blk.dom domSD).up = true ∧ s.blk.stwServes = true ∧ s.blk.stw.mbox = none ∧ s.blk.safe =
      false ∧ bitsOf v.toNat 0 8 = 3 ∧ s.blk.mArg 0 = 0xE2A5) ∧
    (∃ (s : State) (v : Word) (tg : Nat) (noise : List (BitVec 2048)), (s.blk.dom domSD).up = true ∧ s.blk.stwServes = true ∧
      s.blk.stw.mbox = none ∧ s.blk.stw.waits = false ∧ s.blk.safe = false ∧ bitsOf v.toNat 0 8 = 8 ∧ tg = s.blk.mArg 0 % 256
      ∧ s.blk.allSlotsIdle = true ∧ s.blk.lc.target = none ∧ lcChange s.blk.lcState tg = true ∧ s.blk.logActive = true ∧
      (lcKeyed tg = false ∨ keysFrom noise ≠ none)) ∧
    (∃ (s : State) (v : Word) (noise : List (BitVec 2048)), (s.blk.dom domSD).up = true ∧ s.blk.stwServes = true ∧
      s.blk.stw.mbox = none ∧ s.blk.stw.waits = false ∧ s.blk.safe = false ∧ bitsOf v.toNat 0 8 = 8 ∧ bit v.toNat 8 = false ∧
      s.blk.allSlotsIdle = true ∧ s.blk.lc.target = none ∧ lcChange s.blk.lcState (s.blk.mArg 0 % 256) = true ∧ lcKeyed
      (s.blk.mArg 0 % 256) = true ∧ keysFrom noise = none) ∧
    (∃ (s : State) (tg : Nat), s.blk.lc.preparing = some tg ∧ tg < 256 ∧ s.blk.lc.handed = true ∧ s.blk.evlHeld = 0) ∧
    (∃ (s : State) (v : Word), (s.blk.dom domSD).up = true ∧ s.blk.stwServes = true ∧ s.blk.stw.mbox = none ∧ s.blk.safe =
      false ∧ bitsOf v.toNat 0 8 = 9) :=
  ⟨⟨on fun _ => mbox 0 0xC9 32, 2, cfg0, 32, by decide +kernel⟩,
   ⟨on fun _ => mbox 0xE2A5 0 0, 3, by decide +kernel⟩,
   ⟨on fun _ => (mbox lcBUILD 0 0).s pgEVL EVL_POLICY_ENABLE 1 |>.s pgTOP TOP_LC_STATE_STATE lcBLANK, 8, lcBUILD, [],
     by decide +kernel⟩,
   ⟨on fun _ => (mbox lcSEAL 0 0).s pgTOP TOP_LC_STATE_STATE lcBUILD, 8, [0], by decide +kernel⟩,
   ⟨on fun b => { b with lc := { preparing := some 255, handed := true } }, 255, by decide +kernel⟩,
   ⟨on fun _ => (mbox 0 0xC9 1024).s pgTOP TOP_LC_STATE_STATE lcBUILD, 9, by decide +kernel⟩⟩

theorem test_meets_Cartridge :
    (∃ (s : State) (image : List (Nat × Byte)) (im : AMap Byte), s.blk.pins.cart = false ∧ s.blk.pins.porst = true ∧ im =
      (image.filter (fun q => q.1 < 0xC060)).foldl (fun m q => AMap.set 0 m q.1 q.2) []) ∧
    (∃ (s : State) (image : List (Nat × Byte)) (im : AMap Byte), s.blk.pins.cart = false ∧ s.blk.pins.porst = false ∧ im =
      (image.filter (fun q => q.1 < 0xC060)).foldl (fun m q => AMap.set 0 m q.1 q.2) []) ∧
    (∃ (s : State), s.blk.pins.cart = true ∧ s.blk.pins.porst = true) ∧
    (∃ (s : State), s.blk.cp.verifying = true) :=
  ⟨⟨on fun b => { b with pins := { porst := true } }, [(0, 7), (0xC060, 1)], [(0, 7)], by decide +kernel⟩,
   ⟨on id, [(0, 7), (0xC060, 1)], [(0, 7)], by decide +kernel⟩,
   ⟨on fun b => { b with pins := { porst := true, cart := true } }, by decide +kernel⟩,
   ⟨on fun b => { b with cp := { verifying := true } }, by decide +kernel⟩⟩

theorem test_meets_Wear :
    (∃ (s : State), s.blk.cp.changing = false) ∧
    (∃ (s : State), s.blk.cp.xferDue = true) ∧
    (∃ (s : State), s.blk.cpState = cpPRESENT ∧ s.blk.on pgCP CP_STATUS_WALK_BUSY = false) ∧
    (∃ (s : State), s.blk.cpState = cpPRESENT ∧ s.blk.on pgCP CP_STATUS_WALK_BUSY = false ∧ s.blk.cp.walkDue = true) ∧
    (∃ (s : State) (sl : Nat), s.blk.on pgCP CP_STATUS_WALK_BUSY = true ∧ s.blk.cp.openRec = some sl) :=
  ⟨⟨on fun b => b.wr (pgNi 0) 0x400 5, by decide +kernel⟩,
   ⟨on fun b => { b with cp := { xferDue := true, lastXfer := some 9 } }, by decide +kernel⟩,
   ⟨on fun b => b.s pgCP CP_STATUS_STATE cpPRESENT, by decide +kernel⟩,
   ⟨on fun b => { b with cp := { walkDue := true } }.s pgCP CP_STATUS_STATE cpPRESENT, by decide +kernel⟩,
   ⟨on fun b => { b with cp := { openRec := some 0 } }.s pgCP CP_STATUS_WALK_BUSY 1, 0, by decide +kernel⟩⟩

theorem test_meets_IdleTick :
    (∃ (s : State), s.pending = []) :=
  ⟨on id, by decide +kernel⟩

theorem test_meets_StepKeepsInvariant :
    (∃ (s t : State), s.inv ∧ step s = .next t) :=
  ⟨{ ni 191 { lpAck := true } with pending := [.lpApplyAckFall 191, .slotBoundary] },
    { on id with pending := [.slotBoundary] }, ⟨by decide +kernel, by decide +kernel⟩, rfl⟩

theorem test_meets_StopsExactly :
    (∃ (c : Instr), c.wellFormed = false) ∧
    (∃ (c : Instr), c.wellFormed = true) ∧
    (∃ (c : Instr) (s t : State), exec c s = .next t) :=
  ⟨⟨.arbActivation 112, by decide +kernel⟩,
   ⟨.arbActivation 111, by decide +kernel⟩,
   ⟨.flitReceive (.ni 0 0) 0 [], on id, on id, rfl⟩⟩

theorem test_meets_MemorySpared :
    (∃ (c : Instr) (s t : State), sparesMemory c = true ∧ exec c s = .next t) ∧
    (∃ (c : Instr) (s t : State), sparesMemory c = true ∧ exec c s = .next t) :=
  ⟨⟨.flitReceive (.ni 0 0) 0 [], on id, on id, rfl, rfl⟩,
   ⟨.flitReceive (.ni 0 0) 0 [], on id, on id, rfl, rfl⟩⟩

theorem test_meets_BankReadsBack :
    (∃ (w : Sys) (k off : Nat) (bs : List Byte), k < 8 ∧ off % 16 = 0 ∧ off < 0x7DC000 ∧ bs.length = 16 ∧ w.blk.on pgMM
      MM_FLIPMASK_ARM = false) ∧
    (∃ (w : Sys) (k off : Nat) (bs : List Byte), k < 8 ∧ off % 16 = 0 ∧ off < 0x7DC000 ∧ bs.length = 16 ∧ w.blk.on pgMM
      MM_FLIPMASK_ARM = false) ∧
    (∃ (w : Sys) (k off : Nat) (bs : List Byte) (x : Nat), k < 8 ∧ off % 16 = 0 ∧ off < 0x7DC000 ∧ bs.length = 16 ∧ w.blk.on
      pgMM MM_FLIPMASK_ARM = false ∧ x < 0x7DC000 ∧ x / 16 ≠ off / 16) :=
  ⟨⟨{ blk := {}, mem := {} }, 7, 0x7DBFF0, List.replicate 16 7, by decide +kernel⟩,
   ⟨{ blk := {}, mem := {} }, 7, 0x7DBFF0, List.replicate 16 7, by decide +kernel⟩,
   ⟨{ blk := {}, mem := {} }, 7, 0x7DBFF0, List.replicate 16 7, 0, by decide +kernel⟩⟩

theorem test_meets_RefusedAccess :
    (∃ (s : State) (i : Nat) (p : Packet) (rest : List Packet), i < 216 ∧ takeFirst (fun q => q.isRequest i &&
      !(q.forEndpoint && s.blk.resuming i)) (s.blk.ni i).rx = some (p, rest) ∧ p.peri ≠ stOK ∧ p.opc ≠ oPROBE) ∧
    (∃ (a z : Nat), (inKeyRegion a = true ∨ inKeyRegion z = true)) :=
  ⟨⟨ni 215 { rx := [{ pk oRD 0x40000000 3 with peri := stDENIED }] }, 215, { pk oRD 0x40000000 3 with peri := stDENIED }, [],
     by decide +kernel⟩,
   ⟨0x603FB000, 0, by decide +kernel⟩⟩

end Sys2Proof.Slice0
end

section
/-! PROOFS. An NI takes a response and hands it to its endpoint (02 R46-R48; 09 R275). -/
namespace Sys2Proof.Machine

/-! ### What a change of the NIs' own records leaves alone -/

/-- A command that changes the NIs' records alone leaves every other unit, the memories and the queue as they were. -/
theorem State.unitsOnly_nis (s : State) (ns : AMap Ni) :
    s.unitsOnly [.nis] { s with blk := { s.blk with nis := ns } } := by
  refine ⟨rfl, rfl, fun q hq => ?_⟩
  cases q with
  | nis => simp at hq
  | time => exact ⟨rfl, rfl⟩
  | serial => exact ⟨rfl, rfl⟩
  | _ => rfl

@[simp] theorem Block.modNi_stuck (b : Block) (i : Nat) (f : Ni → Ni) (j : Nat) : (b.modNi i f).stuck j = b.stuck j := rfl

/-! ### The status that the endpoint sees (R46, R48) -/

/-- The status of a response as its requester's endpoint sees it: POISONED for a read response with a poisoned flit, else the header's. -/
def Packet.deliveredStatus (p : Packet) : Nat := if p.opc == oRSP_RD && p.poisoned then stPOISON else p.status

theorem Packet.deliveredStatus_of_poisoned {p : Packet} (ho : p.opc = oRSP_RD) (hp : p.poisoned = true) :
    p.deliveredStatus = stPOISON := by
  simp [Packet.deliveredStatus, ho, hp]

theorem Packet.flits_ne_nil_of_poisoned {p : Packet} (hp : p.poisoned = true) : p.flits ≠ [] := by
  intro h
  simp [Packet.poisoned, h] at hp

/-- Only the statuses OK, OK_CORRECTED and POISONED come with data in a read response (02, the data rules after R40). -/
theorem status_of_dataFlitCount_rspRd_ne_zero {len st : Nat} (h : dataFlitCount oRSP_RD len st ≠ 0) :
    st = stOK ∨ st = stCORR ∨ st = stPOISON := by
  by_contra hst
  exact h (by
    simp [dataFlitCount, hst, oRSP_RD, oWR, oWRP, oMSG, oSTAGE, oADD, oSWAP, oSTAGE_END, oPREPARE, oVOTE, oRELEASED, oEVENT])

/-- A read response of the right length with a poisoned flit carries data, so its header's status is none of the reserved ones. -/
theorem Packet.status_lt_of_poisoned_rspRd {p : Packet} (ho : p.opc = oRSP_RD)
    (hn : p.flits.length = dataFlitCount p.opc p.len p.status) (hp : p.poisoned = true) : p.status < 12 := by
  have hlen : dataFlitCount oRSP_RD p.len p.status ≠ 0 := by
    rw [← ho, ← hn]
    exact fun h => Packet.flits_ne_nil_of_poisoned hp (List.eq_nil_of_length_eq_zero h)
  rcases status_of_dataFlitCount_rspRd_ne_zero hlen with h | h | h <;> rw [h] <;> decide

/-! ### RESPONSE_ACCEPT (R46, R47, R275) -/

/-- The response that the endpoint of a transaction gets in packet `p`, ready at the elapsed instant `since`. -/
def Txn.rspFrom (x : Txn) (p : Packet) (since : Nat) : Rsp :=
  ⟨p.deliveredStatus, p.bytes (min (x.req.len + 1) (16 * p.flits.length)), p, since⟩

theorem Block.readyRsp_of_not_stuck {b : Block} {i : Nat} (hs : b.stuck i = false) (x : Txn) (r : Rsp) :
    b.readyRsp i x r =
      b.modNi i (fun v => { v with txns := v.txns ++ [{ x with rsp := some { r with since := b.elapsed } }] }) := by
  simp [Block.readyRsp, hs]

/-- A sound response to an awaiting transaction whose endpoint is not stuck takes the transaction's place, answered, at the list's end. -/
theorem Block.takeResponse_of_awaited {b : Block} {i : Nat} {p : Packet} {x : Txn}
    (hx : (b.ni i).txns.find? (fun y => y.awaits p.tag) = some x)
    (hn : p.flits.length = dataFlitCount p.opc p.len p.status) (hst : p.status < 12) (hs : b.stuck i = false) :
    b.takeResponse i p =
      (b.modNi i (fun v => { v with txns := v.txns.erase x })).modNi i
        (fun v => { v with txns := v.txns ++ [{ x with rsp := some (x.rspFrom p b.elapsed) }] }) := by
  have hbad : ¬ 0xC ≤ p.status := by omega
  simp [Block.takeResponse, hx, hn, hbad, hs, Block.endTxn, Block.readyRsp_of_not_stuck, Txn.rspFrom, Packet.deliveredStatus]

theorem Block.responseAccept_of_first {b : Block} {i : Nat} {p : Packet} {rest : List Packet}
    (h : takeFirst (fun q => isResponse q.opc) (b.ni i).rx = some (p, rest)) :
    b.responseAccept i = (b.modNi i (fun v => { v with rx := rest })).takeResponse i p := by
  simp [Block.responseAccept, h]

theorem exec_responseAccept {i : Nat} (hi : i < 216) (s : State) :
    exec (.responseAccept i) s = .next { s with blk := s.blk.responseAccept i } := by
  simp [exec, execResponseAccept, need, isNi, hi, runB]

/-- RESPONSE_ACCEPT of a sound response whose transaction waits and whose endpoint is not stuck: the packet leaves the arrived ones, its
transaction holds the response, and nothing else changes. -/
theorem exec_responseAccept_delivers {s : State} {i : Nat} {p : Packet} {rest : List Packet} {x : Txn} (hi : i < 216)
    (hrx : takeFirst (fun q => isResponse q.opc) (s.blk.ni i).rx = some (p, rest))
    (hx : (s.blk.ni i).txns.find? (fun y => y.awaits p.tag) = some x)
    (hn : p.flits.length = dataFlitCount p.opc p.len p.status) (hst : p.status < 12) (hs : s.blk.stuck i = false) :
    ∃ t, exec (.responseAccept i) s = .next t ∧ (t.blk.ni i).rx = rest ∧
      (t.blk.ni i).txns = (s.blk.ni i).txns.erase x ++ [{ x with rsp := some (x.rspFrom p s.blk.elapsed) }] ∧
      (∀ j, j ≠ i → t.blk.ni j = s.blk.ni j) ∧ s.unitsOnly [.nis] t := by
  have hx' : ((s.blk.modNi i (fun v => { v with rx := rest })).ni i).txns.find? (fun y => y.awaits p.tag) = some x := by
    simpa using hx
  refine ⟨_, exec_responseAccept hi s, ?_⟩
  rw [Block.responseAccept_of_first hrx, Block.takeResponse_of_awaited hx' hn hst (by simpa using hs)]
  refine ⟨by simp, by simp, fun j hj => by simp [hj.symm], State.unitsOnly_nis s _⟩

/-- Settles O5: a poisoned flit means data, so the header's status is a legal one, and the status delivered is POISONED. -/
theorem poisonedReadResponse : Obligations.PoisonedReadResponse := by
  intro s i p rest x hi hrx hx ho hn hp hs
  have hst : p.status < 12 := Packet.status_lt_of_poisoned_rspRd ho hn hp
  simpa only [Txn.rspFrom, Packet.deliveredStatus_of_poisoned ho hp] using exec_responseAccept_delivers hi hrx hx hn hst hs

end Sys2Proof.Machine
end

section
/-! PROOFS. A write of EVL_TAIL: taken within HEAD, refused beyond it (08 R255). -/
namespace Sys2Proof.Machine

/-! ### Register words that may differ -/

theorem Block.onlyWords.mono {ws ws' : List (Nat × Nat)} {b c : Block} (h : Block.onlyWords ws b c) (hs : ws ⊆ ws') :
    Block.onlyWords ws' b c :=
  fun p off ho hn => h p off ho (fun hm => hn (hs hm))

theorem Block.onlyWords.trans {ws ws' : List (Nat × Nat)} {b c d : Block} (h : Block.onlyWords ws b c)
    (h' : Block.onlyWords ws' c d) : Block.onlyWords (ws ++ ws') b d := by
  intro p off ho hn
  rw [List.mem_append, not_or] at hn
  rw [h' p off ho hn.2, h p off ho hn.1]

/-- A field whose word is none of the named ones. -/
theorem Block.onlyWords.g_eq {ws : List (Nat × Nat)} {b c : Block} (h : Block.onlyWords ws b c) (p : Nat) (f : Fld)
    (ho : f.off < 4096) (hn : (p, f.off / 4 * 4) ∉ ws) : c.g p f = b.g p f := by
  rw [Block.g, Block.g, h p f.off ho hn]

theorem Block.onlyWords.on_eq {ws : List (Nat × Nat)} {b c : Block} (h : Block.onlyWords ws b c) (p : Nat) (f : Fld)
    (ho : f.off < 4096) (hn : (p, f.off / 4 * 4) ∉ ws) : c.on p f = b.on p f := by
  rw [Block.on, Block.on, h.g_eq p f ho hn]

/-- Unlike `regKey_inj`, for offsets that need not be word-aligned. -/
theorem regKey_ne_of_word_ne {p off q off' : Nat} (h : off < 4096) (h' : off' < 4096)
    (hne : (q, off' / 4 * 4) ≠ (p, off / 4 * 4)) : regKey p off ≠ regKey q off' := by
  intro hk
  unfold regKey at hk
  exact hne (Prod.ext (by dsimp only; omega) (by dsimp only; omega))

theorem Block.onlyWords_wr (b : Block) (p off : Nat) (w : Word) (h : off < 4096) :
    Block.onlyWords [(p, off / 4 * 4)] b (b.wr p off w) :=
  fun q off' ho hn => Block.rd_wr_ne b p off q off' w (regKey_ne_of_word_ne h ho (List.ne_of_not_mem_cons hn))

theorem Block.onlyWords_s (b : Block) (p : Nat) (f : Fld) (v : Nat) (h : f.off < 4096) :
    Block.onlyWords [(p, f.off / 4 * 4)] b (b.s p f v) :=
  b.onlyWords_wr p f.off _ h

/-- An event leaves its mark in the PG_EV_PEND word of its source's page alone (12 R359). -/
theorem Block.onlyWords_raise (b : Block) (src cls lvl d : Nat) :
    Block.onlyWords [(pageOfSource src, 0x018)] b (b.raise src cls lvl d) :=
  fun _ _ ho hn => Block.raise_rd_ne b src cls lvl d _ _ (regKey_ne_of_word_ne (by decide) ho (List.ne_of_not_mem_cons hn))

/-- A field that is its whole word. -/
theorem Block.g_wr_word (b : Block) (p off : Nat) (w : Word) : (b.wr p off w).g p ⟨off, 0, 32⟩ = w.toNat := by
  simp [Block.g, bitsOf, Nat.mod_eq_of_lt w.isLt]

/-! ### Kinds of state that may differ -/

theorem Block.onlyParts_wr (b : Block) (p off : Nat) (w : Word) : Block.onlyParts [.regs] b (b.wr p off w) := by
  intro q hq
  cases q with
  | regs => simp at hq
  | time => exact ⟨rfl, rfl⟩
  | serial => exact ⟨rfl, rfl⟩
  | _ => rfl

theorem Block.onlyParts_raise (b : Block) (src cls lvl d : Nat) :
    Block.onlyParts [.regs, .events] b (b.raise src cls lvl d) := by
  intro q hq
  cases q with
  | regs => simp at hq
  | events => simp at hq
  | _ => simp [Part.same]

theorem Part.same_trans {q : Part} {b c d : Block} (h : q.same b c) (h' : q.same c d) : q.same b d := by
  cases q with
  | time => exact ⟨h'.1.trans h.1, h'.2.trans h.2⟩
  | serial => exact ⟨h'.1.trans h.1, h'.2.trans h.2⟩
  | _ => exact Eq.trans h' h

theorem Block.onlyParts.mono {ps ps' : List Part} {b c : Block} (h : Block.onlyParts ps b c) (hs : ps ⊆ ps') :
    Block.onlyParts ps' b c :=
  fun q hq => h q (fun hm => hq (hs hm))

theorem Block.onlyParts.trans {ps : List Part} {b c d : Block} (h : Block.onlyParts ps b c) (h' : Block.onlyParts ps c d) :
    Block.onlyParts ps b d :=
  fun q hq => Part.same_trans (h q hq) (h' q hq)

/-! ### A refused write of the log's page -/

theorem Block.onlyWords_evlRefused (b : Block) : Block.onlyWords [(pgEVL, 0x040), (pgEVL, 0x018)] b b.evlRefused :=
  (b.onlyWords_s pgEVL EVL_STATUS_WR_REFUSED 1 (by decide)).trans (Block.onlyWords_raise _ (srcEVL 3) clCOMMIT 0 0)

theorem Block.onlyParts_evlRefused (b : Block) : Block.onlyParts [.regs, .events] b b.evlRefused :=
  ((b.onlyParts_wr pgEVL _ _).mono (by simp)).trans (Block.onlyParts_raise _ (srcEVL 3) clCOMMIT 0 0)

theorem Block.on_wrRefused_evlRefused (b : Block) : b.evlRefused.on pgEVL EVL_STATUS_WR_REFUSED = true := by
  rw [Block.evlRefused, Block.raise_on _ _ _ _ _ _ _ (by decide) (by decide), Block.on_eq, Block.g_s_self _ _ _ _ (by decide)]
  decide

/-! ### TAIL_RELEASE (R255) -/

/-- How far record index `x` lies past EVL_TAIL, modulo 2³². -/
def Block.pastTail (b : Block) (x : Nat) : Nat := (x + 2 ^ 32 - b.g pgEVL EVL_TAIL_P) % 2 ^ 32

theorem Block.tailRelease_of_beyond_head {b : Block} {v : Word} (h : b.evlHeld < b.pastTail v.toNat) :
    b.tailRelease v = b.evlRefused :=
  if_pos h

theorem Block.tailRelease_of_past_drain {b : Block} {v : Word} (h : b.pastTail v.toNat ≤ b.evlHeld)
    (hp : b.pastTail (b.g pgEVL EVL_DRAIN_PTR_P) < b.pastTail v.toNat) :
    b.tailRelease v = (b.wr pgEVL 0x04C v).wr pgEVL 0x054 v :=
  (if_neg h.not_gt).trans (if_pos hp)

theorem Block.tailRelease_of_not_past_drain {b : Block} {v : Word} (h : b.pastTail v.toNat ≤ b.evlHeld)
    (hp : b.pastTail v.toNat ≤ b.pastTail (b.g pgEVL EVL_DRAIN_PTR_P)) :
    b.tailRelease v = b.wr pgEVL 0x04C v :=
  (if_neg h.not_gt).trans (if_neg hp.not_gt)

/-- A taken write raises no event and writes at most TAIL and the drain pointer. -/
theorem Block.tailRelease_taken_frame {b : Block} {v : Word} (h : b.pastTail v.toNat ≤ b.evlHeld) :
    Block.onlyWords [(pgEVL, 0x04C), (pgEVL, 0x054)] b (b.tailRelease v) ∧ Block.onlyParts [.regs] b (b.tailRelease v) := by
  have hw : Block.onlyWords [(pgEVL, 0x04C)] b (b.wr pgEVL 0x04C v) := b.onlyWords_wr pgEVL 0x04C v (by decide)
  have hparts : Block.onlyParts [.regs] b (b.wr pgEVL 0x04C v) := b.onlyParts_wr pgEVL 0x04C v
  rcases lt_or_ge (b.pastTail (b.g pgEVL EVL_DRAIN_PTR_P)) (b.pastTail v.toNat) with hp | hp
  · rw [Block.tailRelease_of_past_drain h hp]
    exact ⟨hw.trans (Block.onlyWords_wr _ pgEVL 0x054 v (by decide)), hparts.trans (Block.onlyParts_wr _ pgEVL 0x054 v)⟩
  · rw [Block.tailRelease_of_not_past_drain h hp]
    exact ⟨hw.mono (by simp), hparts⟩

theorem Block.g_tail_tailRelease_of_taken {b : Block} {v : Word} (h : b.pastTail v.toNat ≤ b.evlHeld) :
    (b.tailRelease v).g pgEVL EVL_TAIL_P = v.toNat := by
  have hv : (b.wr pgEVL 0x04C v).g pgEVL EVL_TAIL_P = v.toNat := Block.g_wr_word b pgEVL 0x04C v
  rcases lt_or_ge (b.pastTail (b.g pgEVL EVL_DRAIN_PTR_P)) (b.pastTail v.toNat) with hp | hp
  · rw [Block.tailRelease_of_past_drain h hp,
      (Block.onlyWords_wr _ pgEVL 0x054 v (by decide)).g_eq pgEVL EVL_TAIL_P (by decide) (by decide), hv]
  · rw [Block.tailRelease_of_not_past_drain h hp, hv]

theorem Block.onlyParts_tailRelease (b : Block) (v : Word) : Block.onlyParts [.regs, .events] b (b.tailRelease v) := by
  rcases lt_or_ge b.evlHeld (b.pastTail v.toNat) with h | h
  · rw [Block.tailRelease_of_beyond_head h]
    exact b.onlyParts_evlRefused
  · exact (Block.tailRelease_taken_frame h).2.mono (by simp)

theorem exec_tailRelease (v : Word) (s : State) : exec (.tailRelease v) s = .next { s with blk := s.blk.tailRelease v } := rfl

/-- Settles O40: the write is refused beyond HEAD; within it TAIL takes V, and so does a drain pointer that V passes. -/
theorem tailRelease : Obligations.TailRelease := by
  rintro s v _ _ _ rfl rfl rfl
  refine ⟨_, exec_tailRelease v s, fun h => ?_, fun h => ?_, rfl, rfl, s.blk.onlyParts_tailRelease v⟩
  · change s.blk.pastTail v.toNat ≤ s.blk.evlHeld at h
    obtain ⟨hwords, hparts⟩ := Block.tailRelease_taken_frame h
    refine ⟨Block.g_tail_tailRelease_of_taken h, hwords.on_eq _ _ (by decide) (by decide), fun hp => ?_, fun hp => ?_,
      hwords, hparts .events (by simp)⟩
    · rw [Block.tailRelease_of_past_drain h hp]
      exact Block.g_wr_word _ pgEVL 0x054 v
    · rw [Block.tailRelease_of_not_past_drain h hp]
      exact (Block.onlyWords_wr _ pgEVL 0x04C v (by decide)).g_eq _ _ (by decide) (by decide)
  · have hrefused : s.blk.tailRelease v = s.blk.evlRefused := Block.tailRelease_of_beyond_head h
    simp only [hrefused]
    have hwords := s.blk.onlyWords_evlRefused
    exact ⟨hwords.g_eq _ _ (by decide) (by decide), s.blk.on_wrRefused_evlRefused, hwords⟩

end Sys2Proof.Machine
end

section
/-! PROOFS. The peristome judges an access by its first byte and its last byte, each for itself (10 R312, R313). -/
namespace Sys2Proof.Machine

/-- What the rows of R312 ask of one byte `a`: it is outside the key region, under no lock that applies, granted by the windows of the
node that delivers the access, if one does (R314), and granted by the NI regions. -/
structure Block.ByteGranted (b : Block) (i s : Nat) (n : Option Nat) (g : Nat) (outside : Bool) (o a : Nat) : Prop where
  outsideKey : inKeyRegion a = false
  unlocked : b.lockedAt i s outside a = false
  windows : ∀ m, n = some m → b.windowsGrant m s o g a = true
  regions : b.regionsGrant i s o g a = true

theorem stLOCKED_ne_stOK : stLOCKED ≠ stOK := by decide

theorem stDENIED_ne_stOK : stDENIED ≠ stOK := by decide

/-- A row of R312 that refuses is passed exactly where its condition does not hold; the rows after it then decide. -/
theorem refusal_else_eq_stOK_iff {c : Prop} [Decidable c] {refusal rest : Nat} (h : refusal ≠ stOK) :
    (if c then refusal else rest) = stOK ↔ ¬c ∧ rest = stOK := by
  by_cases hc : c
  · simp [hc, h]
  · simp [hc]

/-- R312 with R313: every row passes exactly where both end bytes pass it. -/
theorem Block.verdict_eq_stOK_iff (b : Block) (i s : Nat) (n : Option Nat) (g : Nat) (outside : Bool) (o a z : Nat) :
    b.verdict i s n g outside o a z = stOK ↔ b.ByteGranted i s n g outside o a ∧ b.ByteGranted i s n g outside o z := by
  unfold Block.verdict
  rw [refusal_else_eq_stOK_iff stLOCKED_ne_stOK, refusal_else_eq_stOK_iff stLOCKED_ne_stOK,
    refusal_else_eq_stOK_iff stDENIED_ne_stOK, refusal_else_eq_stOK_iff stDENIED_ne_stOK]
  constructor
  · rintro ⟨hkey, hlock, hwin, hreg, -⟩
    obtain ⟨hkeyA, hkeyZ⟩ : inKeyRegion a = false ∧ inKeyRegion z = false := by simpa using hkey
    obtain ⟨hlockA, hlockZ⟩ : b.lockedAt i s outside a = false ∧ b.lockedAt i s outside z = false := by simpa using hlock
    obtain ⟨hregA, hregZ⟩ : b.regionsGrant i s o g a = true ∧ b.regionsGrant i s o g z = true := by simpa using hreg
    have hwinAZ : ∀ m, n = some m → b.windowsGrant m s o g a = true ∧ b.windowsGrant m s o g z = true := by
      rintro m rfl
      simpa using hwin
    exact ⟨⟨hkeyA, hlockA, fun m hm => (hwinAZ m hm).1, hregA⟩, ⟨hkeyZ, hlockZ, fun m hm => (hwinAZ m hm).2, hregZ⟩⟩
  · rintro ⟨hA, hZ⟩
    refine ⟨by simp [hA.outsideKey, hZ.outsideKey], by simp [hA.unlocked, hZ.unlocked], ?_, by simp [hA.regions, hZ.regions], rfl⟩
    cases n with
    | none => simp
    | some m => simp [hA.windows m rfl, hZ.windows m rfl]

/-- The verdict on an access of one byte, the first and the last at once. -/
theorem Block.verdict_self_eq_stOK_iff (b : Block) (i s : Nat) (n : Option Nat) (g : Nat) (outside : Bool) (o a : Nat) :
    b.verdict i s n g outside o a a = stOK ↔ b.ByteGranted i s n g outside o a :=
  (b.verdict_eq_stOK_iff i s n g outside o a a).trans and_self_iff

/-- Settles O59: an access is granted exactly where both its end bytes are, and for an access of one byte these are the same byte. -/
theorem firstAndLastByte : Obligations.FirstAndLastByte := by
  intro b i set n g outside o a z
  rw [b.verdict_self_eq_stOK_iff, b.verdict_self_eq_stOK_iff]
  exact b.verdict_eq_stOK_iff i set n g outside o a z

end Sys2Proof.Machine
end
